-- ==== Sys2Proof/Word.lean ====
section
/-! DEFINITION. The word types of the TMS320C62x CPU and the two sides of its data path. -/

namespace Sys2Proof

/-- One byte of memory (20_memory.md R140). -/
abbrev Byte := BitVec 8

/-- A general register, a control register, an address or an instruction word (10_state.md R40). -/
abbrev Word := BitVec 32

/-- A 40-bit "long" operand, held in a register pair (10_state.md R44). -/
abbrev Long := BitVec 40

/-- The two register files and the units that belong to them (30_encoding.md R220): `a` is s = 0, `b` is s = 1. -/
inductive Side where
  | a
  | b
deriving DecidableEq, Repr

/-- The s or y bit that selects a side (30_encoding.md R220, R225). -/
def Side.bit : Side → Bool
  | .a => false
  | .b => true

/-- The side an s or y bit selects. -/
def Side.ofBit : Bool → Side
  | false => .a
  | true => .b

/-- The opposite register file. -/
def Side.other : Side → Side
  | .a => .b
  | .b => .a

/-- The file an x-typed operand is read from: `s xor x` (30_encoding.md R221). -/
def Side.cross (s : Side) (x : Bool) : Side :=
  if x then s.other else s

end Sys2Proof
end

