-- ==== Sys2Proof/Config.lean ====
section
/-! DEFINITION. What a device fixes (00_scope.md R9, 70_reset_and_hazards.md R881) and the free values:
constants without a body, so that nothing in Lean can compute or prove what they are. -/

namespace Sys2Proof

/-- A 32-bit value that the spec leaves open (a "draw", 93_implementation_defined.md), one for each count of draws made
so far.  No body: nothing is known of it (log 10). -/
opaque Config.freeWord : Nat → BitVec 32

/-- One bit that the spec leaves open, one for each count of draws made so far.  No body (log 10). -/
opaque Config.freeBit : Nat → Bool

namespace Config

/-- What the device has at an address (parameter `MEMORY_MAP`, 20_memory.md R141, R143). -/
inductive Space where
  /-- program memory, reached by instruction fetch only -/
  | program
  /-- data memory, reached by loads and stores only -/
  | data
  /-- one memory for fetch, loads and stores -/
  | unified
  /-- a memory-mapped peripheral, whose registers no source describes (00_scope.md R7 (a)) -/
  | peripheral
deriving DecidableEq, Repr

/-- A run of byte addresses, `base` to `base + size - 1`. -/
structure Region where
  base : Nat
  size : Nat
  space : Space
deriving DecidableEq, Repr

/-- A run of bytes the launch declares as program text (20_memory.md R186, D18). -/
structure TextRange where
  base : Nat
  size : Nat
deriving DecidableEq, Repr

/-- The launch record of 70_reset_and_hazards.md R881, but for `LITTLE_ENDIAN` and `REVISION_ID`, whose one home is
CSR, and for the memory image and the environment, which are fields of the state. -/
structure Launch where
  /-- `ISTB_RESET` (D3) -/
  istbReset : BitVec 22
  /-- `MEMORY_MAP` (D25) -/
  map : List Region
  /-- the program text (D18) -/
  text : List TextRange
deriving DecidableEq, Repr

/-- DESIGN CHOICE (logs 3, 6, 8): table base 0, the whole 32-bit space one unified memory, no range declared as text. -/
def defaultLaunch : Launch :=
  { istbReset := 0, map := [{ base := 0, size := 4294967296, space := .unified }], text := [] }

/-- DESIGN CHOICE (log 4): `LITTLE_ENDIAN` of `State.reset`. -/
def defaultLittleEndian : Bool := true

/-- DESIGN CHOICE (log 5): `REVISION_ID` of `State.reset`; 01h as in the CSR values of the spec's examples. -/
def defaultRevision : BitVec 8 := 0x01

end Config

end Sys2Proof
end

