-- ==== Sys2Proof/Syntax.lean ====
section
/-! DEFINITION. The instructions, one constructor for each row of spec/opcode_table.json, with the fields their words
carry.  A field that a form does not use is kept as it stands in the word (30_encoding.md R221, D35), so that no bit of a
word is lost; WellFormed.lean says which values a field may have. -/

namespace Sys2Proof

/-- The five condition registers (30_encoding.md R212). -/
inductive CReg where
  | b0
  | b1
  | b2
  | a1
  | a2
deriving DecidableEq, Repr

/-- The condition of an instruction, the fields creg and z (30_encoding.md R212).  The reserved values have no
constructor (R214). -/
inductive Cond where
  /-- creg = 0, z = 0 -/
  | always
  /-- z = 0 -/
  | nonzero (r : CReg)
  /-- z = 1 -/
  | zero (r : CReg)
deriving DecidableEq, Repr

/-- The twelve addressing modes of Table 3-6 (43_load_store.md R553): `neg` and `pos` leave the base register, the
others write it; `Cst` and `Reg` say what the offset is. -/
inductive AddrMode where
  | negCst
  | posCst
  | negReg
  | posReg
  | preDecCst
  | preIncCst
  | postDecCst
  | postIncCst
  | preDecReg
  | preIncReg
  | postDecReg
  | postIncReg
deriving DecidableEq, Repr

/-- The fields of the .L, .M and .S unit formats (30_encoding.md R235, R236, R237). -/
structure Ops3 where
  cond : Cond
  side : Side
  x : Bool
  dst : BitVec 5
  src2 : BitVec 5
  src1 : BitVec 5
deriving DecidableEq, Repr

/-- The fields of the .D unit format (30_encoding.md R238): no cross path. -/
structure OpsD where
  cond : Cond
  side : Side
  dst : BitVec 5
  src2 : BitVec 5
  src1 : BitVec 5
deriving DecidableEq, Repr

/-- The fields of ADDK, MVK and MVKH (30_encoding.md R239, R240). -/
structure OpsK where
  cond : Cond
  side : Side
  dst : BitVec 5
  cst : BitVec 16
deriving DecidableEq, Repr

/-- The fields of the constant field operations (30_encoding.md R241). -/
structure OpsField where
  cond : Cond
  side : Side
  dst : BitVec 5
  src2 : BitVec 5
  csta : BitVec 5
  cstb : BitVec 5
deriving DecidableEq, Repr

/-- The fields of B with a displacement (30_encoding.md R242). -/
structure OpsBr where
  cond : Cond
  side : Side
  cst : BitVec 21
deriving DecidableEq, Repr

/-- The fields of B IRP and B NRP (30_encoding.md R252): dst, src1 and x are there and unused. -/
structure OpsRet where
  cond : Cond
  side : Side
  x : Bool
  dst : BitVec 5
  src1 : BitVec 5
deriving DecidableEq, Repr

/-- The fields of a load or store with base and offset (30_encoding.md R243): `unit` is the y bit (the .D unit and the
file of `base` and `offset`), `side` the s bit (the file of the data register). -/
structure OpsMem where
  cond : Cond
  unit : Side
  side : Side
  data : BitVec 5
  base : BitVec 5
  offset : BitVec 5
  mode : AddrMode
deriving DecidableEq, Repr

/-- The fields of a load or store with a 15-bit offset (30_encoding.md R244): `fromB15` is the y bit (base B15, else
B14), `side` the s bit. -/
structure OpsMem15 where
  cond : Cond
  fromB15 : Bool
  side : Side
  data : BitVec 5
  offset : BitVec 15
deriving DecidableEq, Repr

/-- The operands of MV, NEG and NOT on .L and .S (46_pseudo_ops.md R671, R673, R674). -/
structure Ops2 where
  cond : Cond
  side : Side
  x : Bool
  dst : BitVec 5
  src2 : BitVec 5
deriving DecidableEq, Repr

/-- The operands of MV on .D (46_pseudo_ops.md R671). -/
structure OpsD2 where
  cond : Cond
  side : Side
  dst : BitVec 5
  src2 : BitVec 5
deriving DecidableEq, Repr

/-- The operand of ZERO (46_pseudo_ops.md R675). -/
structure OpsZ where
  cond : Cond
  side : Side
  dst : BitVec 5
deriving DecidableEq, Repr

/-- The instructions of spec/opcode_table.json in the table's order.  Names: a form on .S or .D has the unit's letter
where the mnemonic exists on several units; `Cst` a constant in the src1 field; `Long` a 40-bit source, `ToLong` a
40-bit result of 32-bit sources; a further `X` the cross path on src1; `Reg` the register form of a field operation;
`15` the 15-bit offset.  The last fifteen are the pseudo-operations of 46_pseudo_ops.md, which no word decodes to
(log 40). -/
inductive Instr where
  /-- ADD .L op 0000011: src1 sint, src2 xsint, dst sint (R305) -/
  | addL (o : Ops3)
  /-- ADD .L op 0100011: src1 sint, src2 xsint, dst slong (R305) -/
  | addLToLong (o : Ops3)
  /-- ADD .L op 0100001: src1 xsint, src2 slong, dst slong (R305) -/
  | addLLong (o : Ops3)
  /-- ADD .L op 0000010: src1 scst5, src2 xsint, dst sint (R305) -/
  | addLCst (o : Ops3)
  /-- ADD .L op 0100000: src1 scst5, src2 slong, dst slong (R305) -/
  | addLCstLong (o : Ops3)
  /-- ADDU .L op 0101011: src1 uint, src2 xuint, dst ulong (R335) -/
  | addu (o : Ops3)
  /-- ADDU .L op 0101001: src1 xuint, src2 ulong, dst ulong (R335) -/
  | adduLong (o : Ops3)
  /-- SUB .L op 0000111: src1 sint, src2 xsint, dst sint (R360) -/
  | subL (o : Ops3)
  /-- SUB .L op 0010111: src1 xsint, src2 sint, dst sint (R360) -/
  | subLX (o : Ops3)
  /-- SUB .L op 0100111: src1 sint, src2 xsint, dst slong (R360) -/
  | subLToLong (o : Ops3)
  /-- SUB .L op 0110111: src1 xsint, src2 sint, dst slong (R360) -/
  | subLXToLong (o : Ops3)
  /-- SUB .L op 0000110: src1 scst5, src2 xsint, dst sint (R360) -/
  | subLCst (o : Ops3)
  /-- SUB .L op 0100100: src1 scst5, src2 slong, dst slong (R360) -/
  | subLCstLong (o : Ops3)
  /-- SUBU .L op 0101111: src1 uint, src2 xuint, dst ulong (R380) -/
  | subu (o : Ops3)
  /-- SUBU .L op 0111111: src1 xuint, src2 uint, dst ulong (R380) -/
  | subuX (o : Ops3)
  /-- SUBC .L op 1001011: src1 uint, src2 xuint, dst uint (R375) -/
  | subc (o : Ops3)
  /-- SADD .L op 0010011: src1 sint, src2 xsint, dst sint (R345) -/
  | sadd (o : Ops3)
  /-- SADD .L op 0110001: src1 xsint, src2 slong, dst slong (R345) -/
  | saddLong (o : Ops3)
  /-- SADD .L op 0010010: src1 scst5, src2 xsint, dst sint (R345) -/
  | saddCst (o : Ops3)
  /-- SADD .L op 0110000: src1 scst5, src2 slong, dst slong (R345) -/
  | saddCstLong (o : Ops3)
  /-- SSUB .L op 0001111: src1 sint, src2 xsint, dst sint (R355) -/
  | ssub (o : Ops3)
  /-- SSUB .L op 0011111: src1 xsint, src2 sint, dst sint (R355) -/
  | ssubX (o : Ops3)
  /-- SSUB .L op 0001110: src1 scst5, src2 xsint, dst sint (R355) -/
  | ssubCst (o : Ops3)
  /-- SSUB .L op 0101100: src1 scst5, src2 slong, dst slong (R355) -/
  | ssubCstLong (o : Ops3)
  /-- SAT .L op 1000000: src1 (unused), src2 slong, dst sint (R350) -/
  | sat (o : Ops3)
  /-- ABS .L op 0011010: src1 (unused), src2 xsint, dst sint (R302) -/
  | abs (o : Ops3)
  /-- ABS .L op 0111000: src1 (unused), src2 slong, dst slong (R302) -/
  | absLong (o : Ops3)
  /-- AND .L op 1111011: src1 uint, src2 xuint, dst uint (R405) -/
  | andL (o : Ops3)
  /-- AND .L op 1111010: src1 scst5, src2 xuint, dst uint (R405) -/
  | andLCst (o : Ops3)
  /-- OR .L op 1111111: src1 uint, src2 xuint, dst uint (R408) -/
  | orL (o : Ops3)
  /-- OR .L op 1111110: src1 scst5, src2 xuint, dst uint (R408) -/
  | orLCst (o : Ops3)
  /-- XOR .L op 1101111: src1 uint, src2 xuint, dst uint (R411) -/
  | xorL (o : Ops3)
  /-- XOR .L op 1101110: src1 scst5, src2 xuint, dst uint (R411) -/
  | xorLCst (o : Ops3)
  /-- CMPEQ .L op 1010011: src1 sint, src2 xsint, dst uint (R420) -/
  | cmpeq (o : Ops3)
  /-- CMPEQ .L op 1010010: src1 scst5, src2 xsint, dst uint (R420) -/
  | cmpeqCst (o : Ops3)
  /-- CMPEQ .L op 1010001: src1 xsint, src2 slong, dst uint (R420) -/
  | cmpeqLong (o : Ops3)
  /-- CMPEQ .L op 1010000: src1 scst5, src2 slong, dst uint (R420) -/
  | cmpeqCstLong (o : Ops3)
  /-- CMPGT .L op 1000111: src1 sint, src2 xsint, dst uint (R424) -/
  | cmpgt (o : Ops3)
  /-- CMPGT .L op 1000110: src1 scst5, src2 xsint, dst uint (R424) -/
  | cmpgtCst (o : Ops3)
  /-- CMPGT .L op 1000101: src1 xsint, src2 slong, dst uint (R424) -/
  | cmpgtLong (o : Ops3)
  /-- CMPGT .L op 1000100: src1 scst5, src2 slong, dst uint (R424) -/
  | cmpgtCstLong (o : Ops3)
  /-- CMPGTU .L op 1001111: src1 uint, src2 xuint, dst uint (R428) -/
  | cmpgtu (o : Ops3)
  /-- CMPGTU .L op 1001110: src1 ucst4, src2 xuint, dst uint (R428) -/
  | cmpgtuCst (o : Ops3)
  /-- CMPGTU .L op 1001101: src1 xuint, src2 ulong, dst uint (R428) -/
  | cmpgtuLong (o : Ops3)
  /-- CMPGTU .L op 1001100: src1 ucst4, src2 ulong, dst uint (R428) -/
  | cmpgtuCstLong (o : Ops3)
  /-- CMPLT .L op 1010111: src1 sint, src2 xsint, dst uint (R432) -/
  | cmplt (o : Ops3)
  /-- CMPLT .L op 1010110: src1 scst5, src2 xsint, dst uint (R432) -/
  | cmpltCst (o : Ops3)
  /-- CMPLT .L op 1010101: src1 xsint, src2 slong, dst uint (R432) -/
  | cmpltLong (o : Ops3)
  /-- CMPLT .L op 1010100: src1 scst5, src2 slong, dst uint (R432) -/
  | cmpltCstLong (o : Ops3)
  /-- CMPLTU .L op 1011111: src1 uint, src2 xuint, dst uint (R436) -/
  | cmpltu (o : Ops3)
  /-- CMPLTU .L op 1011110: src1 ucst4, src2 xuint, dst uint (R436) -/
  | cmpltuCst (o : Ops3)
  /-- CMPLTU .L op 1011101: src1 xuint, src2 ulong, dst uint (R436) -/
  | cmpltuLong (o : Ops3)
  /-- CMPLTU .L op 1011100: src1 ucst4, src2 ulong, dst uint (R436) -/
  | cmpltuCstLong (o : Ops3)
  /-- LMBD .L op 1101011: src1 uint, src2 xuint, dst uint (R440) -/
  | lmbd (o : Ops3)
  /-- LMBD .L op 1101010: src1 cst5, src2 xuint, dst uint (R440) -/
  | lmbdCst (o : Ops3)
  /-- NORM .L op 1100011: src1 (unused), src2 xsint, dst uint (R445) -/
  | norm (o : Ops3)
  /-- NORM .L op 1100000: src1 (unused), src2 slong, dst uint (R445) -/
  | normLong (o : Ops3)
  /-- MPY .M op 11001: src1 slsb16, src2 xslsb16, dst sint (R501) -/
  | mpy (o : Ops3)
  /-- MPY .M op 11000: src1 scst5, src2 xslsb16, dst sint (R501) -/
  | mpyCst (o : Ops3)
  /-- MPYU .M op 11111: src1 ulsb16, src2 xulsb16, dst uint (R502) -/
  | mpyu (o : Ops3)
  /-- MPYUS .M op 11101: src1 ulsb16, src2 xslsb16, dst sint (R503) -/
  | mpyus (o : Ops3)
  /-- MPYSU .M op 11011: src1 slsb16, src2 xulsb16, dst sint (R504) -/
  | mpysu (o : Ops3)
  /-- MPYSU .M op 11110: src1 scst5, src2 xulsb16, dst sint (R504) -/
  | mpysuCst (o : Ops3)
  /-- MPYH .M op 00001: src1 smsb16, src2 xsmsb16, dst sint (R505) -/
  | mpyh (o : Ops3)
  /-- MPYHU .M op 00111: src1 umsb16, src2 xumsb16, dst uint (R506) -/
  | mpyhu (o : Ops3)
  /-- MPYHUS .M op 00101: src1 umsb16, src2 xsmsb16, dst sint (R507) -/
  | mpyhus (o : Ops3)
  /-- MPYHSU .M op 00011: src1 smsb16, src2 xumsb16, dst sint (R508) -/
  | mpyhsu (o : Ops3)
  /-- MPYHL .M op 01001: src1 smsb16, src2 xslsb16, dst sint (R509) -/
  | mpyhl (o : Ops3)
  /-- MPYHLU .M op 01111: src1 umsb16, src2 xulsb16, dst uint (R510) -/
  | mpyhlu (o : Ops3)
  /-- MPYHULS .M op 01101: src1 umsb16, src2 xslsb16, dst sint (R511) -/
  | mpyhuls (o : Ops3)
  /-- MPYHSLU .M op 01011: src1 smsb16, src2 xulsb16, dst sint (R512) -/
  | mpyhslu (o : Ops3)
  /-- MPYLH .M op 10001: src1 slsb16, src2 xsmsb16, dst sint (R513) -/
  | mpylh (o : Ops3)
  /-- MPYLHU .M op 10111: src1 ulsb16, src2 xumsb16, dst uint (R514) -/
  | mpylhu (o : Ops3)
  /-- MPYLUHS .M op 10101: src1 ulsb16, src2 xsmsb16, dst sint (R515) -/
  | mpyluhs (o : Ops3)
  /-- MPYLSHU .M op 10011: src1 slsb16, src2 xumsb16, dst sint (R516) -/
  | mpylshu (o : Ops3)
  /-- SMPY .M op 11010: src1 slsb16, src2 xslsb16, dst sint (R520) -/
  | smpy (o : Ops3)
  /-- SMPYH .M op 00010: src1 smsb16, src2 xsmsb16, dst sint (R521) -/
  | smpyh (o : Ops3)
  /-- SMPYHL .M op 01010: src1 smsb16, src2 xslsb16, dst sint (R522) -/
  | smpyhl (o : Ops3)
  /-- SMPYLH .M op 10010: src1 slsb16, src2 xsmsb16, dst sint (R523) -/
  | smpylh (o : Ops3)
  /-- ADD .S op 000111: src1 sint, src2 xsint, dst sint (R306) -/
  | addS (o : Ops3)
  /-- ADD .S op 000110: src1 scst5, src2 xsint, dst sint (R306) -/
  | addSCst (o : Ops3)
  /-- SUB .S op 010111: src1 sint, src2 xsint, dst sint (R365) -/
  | subS (o : Ops3)
  /-- SUB .S op 010110: src1 scst5, src2 xsint, dst sint (R365) -/
  | subSCst (o : Ops3)
  /-- ADD2 .S op 000001: src1 sint, src2 xsint, dst sint (R340) -/
  | add2 (o : Ops3)
  /-- SUB2 .S op 010001: src1 sint, src2 xsint, dst sint (R390) -/
  | sub2 (o : Ops3)
  /-- AND .S op 011111: src1 uint, src2 xuint, dst uint (R405) -/
  | andS (o : Ops3)
  /-- AND .S op 011110: src1 scst5, src2 xuint, dst uint (R405) -/
  | andSCst (o : Ops3)
  /-- OR .S op 011011: src1 uint, src2 xuint, dst uint (R408) -/
  | orS (o : Ops3)
  /-- OR .S op 011010: src1 scst5, src2 xuint, dst uint (R408) -/
  | orSCst (o : Ops3)
  /-- XOR .S op 001011: src1 uint, src2 xuint, dst uint (R411) -/
  | xorS (o : Ops3)
  /-- XOR .S op 001010: src1 scst5, src2 xuint, dst uint (R411) -/
  | xorSCst (o : Ops3)
  /-- SHL .S op 110011: src1 uint (amount), src2 xsint, dst sint (R470) -/
  | shl (o : Ops3)
  /-- SHL .S op 110001: src1 uint, src2 slong, dst slong (R470) -/
  | shlLong (o : Ops3)
  /-- SHL .S op 010011: src1 uint, src2 xuint, dst ulong (R470) -/
  | shlToLong (o : Ops3)
  /-- SHL .S op 110010: src1 ucst5, src2 xsint, dst sint (R470) -/
  | shlCst (o : Ops3)
  /-- SHL .S op 110000: src1 ucst5, src2 slong, dst slong (R470) -/
  | shlCstLong (o : Ops3)
  /-- SHL .S op 010010: src1 ucst5, src2 xuint, dst ulong (R470) -/
  | shlCstToLong (o : Ops3)
  /-- SHR .S op 110111: src1 uint, src2 xsint, dst sint (R475) -/
  | shr (o : Ops3)
  /-- SHR .S op 110101: src1 uint, src2 slong, dst slong (R475) -/
  | shrLong (o : Ops3)
  /-- SHR .S op 110110: src1 ucst5, src2 xsint, dst sint (R475) -/
  | shrCst (o : Ops3)
  /-- SHR .S op 110100: src1 ucst5, src2 slong, dst slong (R475) -/
  | shrCstLong (o : Ops3)
  /-- SHRU .S op 100111: src1 uint, src2 xuint, dst uint (R480) -/
  | shru (o : Ops3)
  /-- SHRU .S op 100101: src1 uint, src2 ulong, dst ulong (R480) -/
  | shruLong (o : Ops3)
  /-- SHRU .S op 100110: src1 ucst5, src2 xuint, dst uint (R480) -/
  | shruCst (o : Ops3)
  /-- SHRU .S op 100100: src1 ucst5, src2 ulong, dst ulong (R480) -/
  | shruCstLong (o : Ops3)
  /-- SSHL .S op 100011: src1 uint, src2 xsint, dst sint (R485) -/
  | sshl (o : Ops3)
  /-- SSHL .S op 100010: src1 ucst5, src2 xsint, dst sint (R485) -/
  | sshlCst (o : Ops3)
  /-- SET .S op 111011: src1 uint, src2 xuint, dst uint (R455) -/
  | setReg (o : Ops3)
  /-- CLR .S op 111111: src1 uint, src2 xuint, dst uint (R450) -/
  | clrReg (o : Ops3)
  /-- EXT .S op 101111: src1 uint, src2 xsint, dst sint (R460) -/
  | extReg (o : Ops3)
  /-- EXTU .S op 101011: src1 uint, src2 xuint, dst uint (R465) -/
  | extuReg (o : Ops3)
  /-- MVC .S op 001111: src1 (unused), src2 control register address, dst uint (R630) -/
  | mvcRead (o : Ops3)
  /-- MVC .S op 001110: src1 (unused), src2 xuint, dst control register address (R631) -/
  | mvcWrite (o : Ops3)
  /-- B .S op 001101: src1 (unused), src2 xuint, dst (unused) (R610) -/
  | bReg (o : Ops3)
  /-- B_IRP .S op 000011, src2 field 00110 (R615) -/
  | bIrp (o : OpsRet)
  /-- B_NRP .S op 000011, src2 field 00111 (R620) -/
  | bNrp (o : OpsRet)
  /-- ADD .D op 010000: src1 sint, src2 sint, dst sint (R310) -/
  | addD (o : OpsD)
  /-- ADD .D op 010010: src1 ucst5, src2 sint, dst sint (R310) -/
  | addDCst (o : OpsD)
  /-- SUB .D op 010001: src1 sint, src2 sint, dst sint (R370) -/
  | subD (o : OpsD)
  /-- SUB .D op 010011: src1 ucst5, src2 sint, dst sint (R370) -/
  | subDCst (o : OpsD)
  /-- ADDAB .D op 110000: src1 sint, src2 sint, dst sint (R320) -/
  | addab (o : OpsD)
  /-- ADDAB .D op 110010: src1 ucst5, src2 sint, dst sint (R320) -/
  | addabCst (o : OpsD)
  /-- ADDAH .D op 110100: src1 sint, src2 sint, dst sint (R321) -/
  | addah (o : OpsD)
  /-- ADDAH .D op 110110: src1 ucst5, src2 sint, dst sint (R321) -/
  | addahCst (o : OpsD)
  /-- ADDAW .D op 111000: src1 sint, src2 sint, dst sint (R322) -/
  | addaw (o : OpsD)
  /-- ADDAW .D op 111010: src1 ucst5, src2 sint, dst sint (R322) -/
  | addawCst (o : OpsD)
  /-- SUBAB .D op 110001: src1 sint, src2 sint, dst sint (R323) -/
  | subab (o : OpsD)
  /-- SUBAB .D op 110011: src1 ucst5, src2 sint, dst sint (R323) -/
  | subabCst (o : OpsD)
  /-- SUBAH .D op 110101: src1 sint, src2 sint, dst sint (R324) -/
  | subah (o : OpsD)
  /-- SUBAH .D op 110111: src1 ucst5, src2 sint, dst sint (R324) -/
  | subahCst (o : OpsD)
  /-- SUBAW .D op 111001: src1 sint, src2 sint, dst sint (R325) -/
  | subaw (o : OpsD)
  /-- SUBAW .D op 111011: src1 ucst5, src2 sint, dst sint (R325) -/
  | subawCst (o : OpsD)
  /-- ADDK ADDK (.S) (R315) -/
  | addk (o : OpsK)
  /-- MVK MVK (.S) (R635) -/
  | mvk (o : OpsK)
  /-- MVKH MVK (.S) (R640) -/
  | mvkh (o : OpsK)
  /-- EXTU field (.S) op 00 (R465) -/
  | extu (o : OpsField)
  /-- EXT field (.S) op 01 (R460) -/
  | ext (o : OpsField)
  /-- SET field (.S) op 10 (R455) -/
  | set (o : OpsField)
  /-- CLR field (.S) op 11 (R450) -/
  | clr (o : OpsField)
  /-- B B displacement (.S) (R605) -/
  | bDisp (o : OpsBr)
  /-- LDHU load/store (.D) op 000 (R558) -/
  | ldhu (o : OpsMem)
  /-- LDBU load/store (.D) op 001 (R556) -/
  | ldbu (o : OpsMem)
  /-- LDB load/store (.D) op 010 (R555) -/
  | ldb (o : OpsMem)
  /-- STB load/store (.D) op 011 (R560) -/
  | stb (o : OpsMem)
  /-- LDH load/store (.D) op 100 (R557) -/
  | ldh (o : OpsMem)
  /-- STH load/store (.D) op 101 (R561) -/
  | sth (o : OpsMem)
  /-- LDW load/store (.D) op 110 (R559) -/
  | ldw (o : OpsMem)
  /-- STW load/store (.D) op 111 (R562) -/
  | stw (o : OpsMem)
  /-- LDHU load/store 15-bit (.D2) op 000 (R574) -/
  | ldhu15 (o : OpsMem15)
  /-- LDBU load/store 15-bit (.D2) op 001 (R572) -/
  | ldbu15 (o : OpsMem15)
  /-- LDB load/store 15-bit (.D2) op 010 (R571) -/
  | ldb15 (o : OpsMem15)
  /-- STB load/store 15-bit (.D2) op 011 (R576) -/
  | stb15 (o : OpsMem15)
  /-- LDH load/store 15-bit (.D2) op 100 (R573) -/
  | ldh15 (o : OpsMem15)
  /-- STH load/store 15-bit (.D2) op 101 (R577) -/
  | sth15 (o : OpsMem15)
  /-- LDW load/store 15-bit (.D2) op 110 (R575) -/
  | ldw15 (o : OpsMem15)
  /-- STW load/store 15-bit (.D2) op 111 (R578) -/
  | stw15 (o : OpsMem15)
  /-- NOP NOP: src is count - 1, here 0 to 7 (R650) -/
  | nop (src : BitVec 3)
  /-- NOP NOP: src = 8, count 9 (R650) -/
  | nop9
  /-- IDLE IDLE (R655) -/
  | idle
  /-- MV .L, pseudo-operation (R671) -/
  | mvL (o : Ops2)
  /-- MV .L, pseudo-operation (R671) -/
  | mvLLong (o : Ops2)
  /-- MV .S, pseudo-operation (R671) -/
  | mvS (o : Ops2)
  /-- MV .D, pseudo-operation (R671) -/
  | mvD (o : OpsD2)
  /-- NEG .L, pseudo-operation (R673) -/
  | negL (o : Ops2)
  /-- NEG .L, pseudo-operation (R673) -/
  | negLLong (o : Ops2)
  /-- NEG .S, pseudo-operation (R673) -/
  | negS (o : Ops2)
  /-- NOT .L, pseudo-operation (R674) -/
  | notL (o : Ops2)
  /-- NOT .S, pseudo-operation (R674) -/
  | notS (o : Ops2)
  /-- ZERO .L, pseudo-operation (R675) -/
  | zeroL (o : OpsZ)
  /-- ZERO .L, pseudo-operation (R675) -/
  | zeroLLong (o : OpsZ)
  /-- ZERO .S, pseudo-operation (R675) -/
  | zeroS (o : OpsZ)
  /-- ZERO .D, pseudo-operation (R675) -/
  | zeroD (o : OpsZ)
  /-- MVKL MVK (.S), pseudo-operation (R672) -/
  | mvkl (o : OpsK)
  /-- MVKLH MVK (.S), pseudo-operation (R641) -/
  | mvklh (o : OpsK)
deriving DecidableEq, Repr

end Sys2Proof
end

