-- ==== Sys2Proof/Machine/Shape.lean ====
section
/-! DEFINITION. What a word names and occupies, read from its format and operand types and from nothing else
(70_reset_and_hazards.md R811): its functional unit, its register fields, its cross path, long ports and data path. -/

namespace Sys2Proof

/-- The four kinds of functional unit (70_reset_and_hazards.md R811). -/
inductive FuncUnit where
  | l
  | s
  | m
  | d
deriving DecidableEq, Repr

/-- The operand types of the opcode maps (00_scope.md R12), as far as a field's meaning goes: not a register, a
register of the unit's side, a register that the x bit may take from the other side, a 40-bit pair. -/
inductive OpType where
  | none
  | reg
  | xreg
  | long
deriving DecidableEq, Repr

/-- What an instruction names and occupies. -/
structure Use where
  /-- the unit (70_reset_and_hazards.md R810); none for NOP and IDLE -/
  unit : Option (FuncUnit × Side) := none
  /-- the registers its source fields read, each once for each field, a pair as both halves (R826) -/
  reads : List (Side × BitVec 5) := []
  /-- the fields used as register numbers (30_encoding.md R222) -/
  names : List (BitVec 5) := []
  /-- the fields used as pair numbers (30_encoding.md R223) -/
  pairs : List (BitVec 5) := []
  /-- the functional x bit set: the side whose cross path is used (R812) -/
  cross : Option Side := none
  /-- a 40-bit source, on the side of the unit (R824) -/
  longSource : Option Side := none
  /-- a 40-bit result, on the side of the unit (R824) -/
  longResult : Option Side := none
  /-- the data path T1 or T2 of a load or store (R822) -/
  dataPath : Option Side := none
  /-- the file a store's data register is in (R824) -/
  storeFile : Option Side := none
  /-- the instruction exists on .S2 only and its s bit is 0 (30_encoding.md R248 (g)) -/
  wrongSide : Bool := false
deriving DecidableEq, Repr

/-- The registers one source field reads. -/
def OpType.reads (t : OpType) (side : Side) (x : Bool) (f : BitVec 5) : List (Side × BitVec 5) :=
  match t with
  | .none => []
  | .reg => [(side, f)]
  | .xreg => [(side.cross x, f)]
  | .long => [(side, f), (side, f + 1)]

/-- A field that is a register number. -/
def OpType.names (t : OpType) (f : BitVec 5) : List (BitVec 5) :=
  match t with
  | .none => []
  | .reg => [f]
  | .xreg => [f]
  | .long => [f]

/-- A field that names a pair. -/
def OpType.pairs (t : OpType) (f : BitVec 5) : List (BitVec 5) :=
  match t with
  | .none => []
  | .reg => []
  | .xreg => []
  | .long => [f]

/-- The use of a word of the .L, .M or .S unit format whose fields src1, src2, dst have the given types. -/
def use3 (u : FuncUnit) (t1 t2 td : OpType) (o : Ops3) : Use :=
  { unit := some (u, o.side)
    reads := t1.reads o.side o.x o.src1 ++ t2.reads o.side o.x o.src2
    names := t1.names o.src1 ++ t2.names o.src2 ++ td.names o.dst
    pairs := t1.pairs o.src1 ++ t2.pairs o.src2 ++ td.pairs o.dst
    cross := if o.x && (t1 == .xreg || t2 == .xreg) then some o.side else none
    longSource := if t1 == .long || t2 == .long then some o.side else none
    longResult := if td == .long then some o.side else none }

/-- The use of an instruction of .S2 only (30_encoding.md R252). -/
def useS2 (t2 td : OpType) (o : Ops3) : Use :=
  { use3 .s .none t2 td o with wrongSide := o.side == .a }

/-- The use of B IRP and B NRP: no general register (70_reset_and_hazards.md R802). -/
def useRet (o : OpsRet) : Use :=
  { unit := some (.s, o.side), wrongSide := o.side == .a }

/-- The use of a word of the .D unit format: src2 and dst are registers, src1 has the given type. -/
def useD (t1 : OpType) (o : OpsD) : Use :=
  { unit := some (.d, o.side)
    reads := t1.reads o.side false o.src1 ++ [(o.side, o.src2)]
    names := t1.names o.src1 ++ [o.src2, o.dst] }

/-- The use of a 16-bit constant form; ADDK and MVKH read their destination (R826). -/
def useK (readsDst : Bool) (o : OpsK) : Use :=
  { unit := some (.s, o.side)
    reads := if readsDst then [(o.side, o.dst)] else []
    names := [o.dst] }

/-- The use of a constant field operation. -/
def useField (o : OpsField) : Use :=
  { unit := some (.s, o.side), reads := [(o.side, o.src2)], names := [o.src2, o.dst] }

/-- The offset is a register (bit 2 of the mode field, 43_load_store.md R553). -/
def AddrMode.usesReg : AddrMode → Bool
  | .negCst => false
  | .posCst => false
  | .negReg => true
  | .posReg => true
  | .preDecCst => false
  | .preIncCst => false
  | .postDecCst => false
  | .postIncCst => false
  | .preDecReg => true
  | .preIncReg => true
  | .postDecReg => true
  | .postIncReg => true

/-- The base register is written (bit 3 of the mode field). -/
def AddrMode.modifies : AddrMode → Bool
  | .negCst => false
  | .posCst => false
  | .negReg => false
  | .posReg => false
  | .preDecCst => true
  | .preIncCst => true
  | .postDecCst => true
  | .postIncCst => true
  | .preDecReg => true
  | .preIncReg => true
  | .postDecReg => true
  | .postIncReg => true

/-- The address is the base before the calculation. -/
def AddrMode.isPost : AddrMode → Bool
  | .negCst => false
  | .posCst => false
  | .negReg => false
  | .posReg => false
  | .preDecCst => false
  | .preIncCst => false
  | .postDecCst => true
  | .postIncCst => true
  | .preDecReg => false
  | .preIncReg => false
  | .postDecReg => true
  | .postIncReg => true

/-- The offset is added (bit 0 of the mode field). -/
def AddrMode.adds : AddrMode → Bool
  | .negCst => false
  | .posCst => true
  | .negReg => false
  | .posReg => true
  | .preDecCst => false
  | .preIncCst => true
  | .postDecCst => false
  | .postIncCst => true
  | .preDecReg => false
  | .preIncReg => true
  | .postDecReg => false
  | .postIncReg => true

/-- The use of a load or store with base and offset: the unit and the address registers by y, the data by s. -/
def useMem (store : Bool) (o : OpsMem) : Use :=
  { unit := some (.d, o.unit)
    reads := (if o.mode.usesReg then [(o.unit, o.offset)] else []) ++ [(o.unit, o.base)]
      ++ (if store then [(o.side, o.data)] else [])
    names := (if o.mode.usesReg then [o.offset] else []) ++ [o.base, o.data]
    dataPath := some o.side
    storeFile := if store then some o.side else none }

/-- The base register of the 15-bit offset form: B14 or B15 (43_load_store.md R570). -/
def OpsMem15.baseReg (o : OpsMem15) : BitVec 5 :=
  if o.fromB15 then 15 else 14

/-- The use of a load or store with a 15-bit offset: unit .D2, base B14 or B15. -/
def useMem15 (store : Bool) (o : OpsMem15) : Use :=
  { unit := some (.d, .b)
    reads := (.b, o.baseReg) :: (if store then [(o.side, o.data)] else [])
    names := [o.data]
    dataPath := some o.side
    storeFile := if store then some o.side else none }

/-- MV, NEG, NOT as the words of a constant form with src1 a constant. -/
def Ops2.withSrc1 (o : Ops2) (f : BitVec 5) : Ops3 :=
  { cond := o.cond, side := o.side, x := o.x, dst := o.dst, src2 := o.src2, src1 := f }

/-- MV on .D as the word of the constant form. -/
def OpsD2.withSrc1 (o : OpsD2) (f : BitVec 5) : OpsD :=
  { cond := o.cond, side := o.side, dst := o.dst, src2 := o.src2, src1 := f }

/-- ZERO as a word whose three register fields are dst and whose x bit is 0 (46_pseudo_ops.md R675). -/
def OpsZ.all3 (o : OpsZ) : Ops3 :=
  { cond := o.cond, side := o.side, x := false, dst := o.dst, src2 := o.dst, src1 := o.dst }

/-- ZERO on .D. -/
def OpsZ.allD (o : OpsZ) : OpsD :=
  { cond := o.cond, side := o.side, dst := o.dst, src2 := o.dst, src1 := o.dst }

/-- The machine instruction a pseudo-operation stands for (46_pseudo_ops.md R671 to R675, 45_move_control.md R641);
every other instruction stands for itself. -/
def Instr.expand : Instr → Instr
  | .addL o => .addL o
  | .addLToLong o => .addLToLong o
  | .addLLong o => .addLLong o
  | .addLCst o => .addLCst o
  | .addLCstLong o => .addLCstLong o
  | .addu o => .addu o
  | .adduLong o => .adduLong o
  | .subL o => .subL o
  | .subLX o => .subLX o
  | .subLToLong o => .subLToLong o
  | .subLXToLong o => .subLXToLong o
  | .subLCst o => .subLCst o
  | .subLCstLong o => .subLCstLong o
  | .subu o => .subu o
  | .subuX o => .subuX o
  | .subc o => .subc o
  | .sadd o => .sadd o
  | .saddLong o => .saddLong o
  | .saddCst o => .saddCst o
  | .saddCstLong o => .saddCstLong o
  | .ssub o => .ssub o
  | .ssubX o => .ssubX o
  | .ssubCst o => .ssubCst o
  | .ssubCstLong o => .ssubCstLong o
  | .sat o => .sat o
  | .abs o => .abs o
  | .absLong o => .absLong o
  | .andL o => .andL o
  | .andLCst o => .andLCst o
  | .orL o => .orL o
  | .orLCst o => .orLCst o
  | .xorL o => .xorL o
  | .xorLCst o => .xorLCst o
  | .cmpeq o => .cmpeq o
  | .cmpeqCst o => .cmpeqCst o
  | .cmpeqLong o => .cmpeqLong o
  | .cmpeqCstLong o => .cmpeqCstLong o
  | .cmpgt o => .cmpgt o
  | .cmpgtCst o => .cmpgtCst o
  | .cmpgtLong o => .cmpgtLong o
  | .cmpgtCstLong o => .cmpgtCstLong o
  | .cmpgtu o => .cmpgtu o
  | .cmpgtuCst o => .cmpgtuCst o
  | .cmpgtuLong o => .cmpgtuLong o
  | .cmpgtuCstLong o => .cmpgtuCstLong o
  | .cmplt o => .cmplt o
  | .cmpltCst o => .cmpltCst o
  | .cmpltLong o => .cmpltLong o
  | .cmpltCstLong o => .cmpltCstLong o
  | .cmpltu o => .cmpltu o
  | .cmpltuCst o => .cmpltuCst o
  | .cmpltuLong o => .cmpltuLong o
  | .cmpltuCstLong o => .cmpltuCstLong o
  | .lmbd o => .lmbd o
  | .lmbdCst o => .lmbdCst o
  | .norm o => .norm o
  | .normLong o => .normLong o
  | .mpy o => .mpy o
  | .mpyCst o => .mpyCst o
  | .mpyu o => .mpyu o
  | .mpyus o => .mpyus o
  | .mpysu o => .mpysu o
  | .mpysuCst o => .mpysuCst o
  | .mpyh o => .mpyh o
  | .mpyhu o => .mpyhu o
  | .mpyhus o => .mpyhus o
  | .mpyhsu o => .mpyhsu o
  | .mpyhl o => .mpyhl o
  | .mpyhlu o => .mpyhlu o
  | .mpyhuls o => .mpyhuls o
  | .mpyhslu o => .mpyhslu o
  | .mpylh o => .mpylh o
  | .mpylhu o => .mpylhu o
  | .mpyluhs o => .mpyluhs o
  | .mpylshu o => .mpylshu o
  | .smpy o => .smpy o
  | .smpyh o => .smpyh o
  | .smpyhl o => .smpyhl o
  | .smpylh o => .smpylh o
  | .addS o => .addS o
  | .addSCst o => .addSCst o
  | .subS o => .subS o
  | .subSCst o => .subSCst o
  | .add2 o => .add2 o
  | .sub2 o => .sub2 o
  | .andS o => .andS o
  | .andSCst o => .andSCst o
  | .orS o => .orS o
  | .orSCst o => .orSCst o
  | .xorS o => .xorS o
  | .xorSCst o => .xorSCst o
  | .shl o => .shl o
  | .shlLong o => .shlLong o
  | .shlToLong o => .shlToLong o
  | .shlCst o => .shlCst o
  | .shlCstLong o => .shlCstLong o
  | .shlCstToLong o => .shlCstToLong o
  | .shr o => .shr o
  | .shrLong o => .shrLong o
  | .shrCst o => .shrCst o
  | .shrCstLong o => .shrCstLong o
  | .shru o => .shru o
  | .shruLong o => .shruLong o
  | .shruCst o => .shruCst o
  | .shruCstLong o => .shruCstLong o
  | .sshl o => .sshl o
  | .sshlCst o => .sshlCst o
  | .setReg o => .setReg o
  | .clrReg o => .clrReg o
  | .extReg o => .extReg o
  | .extuReg o => .extuReg o
  | .mvcRead o => .mvcRead o
  | .mvcWrite o => .mvcWrite o
  | .bReg o => .bReg o
  | .bIrp o => .bIrp o
  | .bNrp o => .bNrp o
  | .addD o => .addD o
  | .addDCst o => .addDCst o
  | .subD o => .subD o
  | .subDCst o => .subDCst o
  | .addab o => .addab o
  | .addabCst o => .addabCst o
  | .addah o => .addah o
  | .addahCst o => .addahCst o
  | .addaw o => .addaw o
  | .addawCst o => .addawCst o
  | .subab o => .subab o
  | .subabCst o => .subabCst o
  | .subah o => .subah o
  | .subahCst o => .subahCst o
  | .subaw o => .subaw o
  | .subawCst o => .subawCst o
  | .addk o => .addk o
  | .mvk o => .mvk o
  | .mvkh o => .mvkh o
  | .extu o => .extu o
  | .ext o => .ext o
  | .set o => .set o
  | .clr o => .clr o
  | .bDisp o => .bDisp o
  | .ldhu o => .ldhu o
  | .ldbu o => .ldbu o
  | .ldb o => .ldb o
  | .stb o => .stb o
  | .ldh o => .ldh o
  | .sth o => .sth o
  | .ldw o => .ldw o
  | .stw o => .stw o
  | .ldhu15 o => .ldhu15 o
  | .ldbu15 o => .ldbu15 o
  | .ldb15 o => .ldb15 o
  | .stb15 o => .stb15 o
  | .ldh15 o => .ldh15 o
  | .sth15 o => .sth15 o
  | .ldw15 o => .ldw15 o
  | .stw15 o => .stw15 o
  | .nop src => .nop src
  | .nop9 => .nop9
  | .idle => .idle
  | .mvL o => .addLCst (o.withSrc1 0)
  | .mvLLong o => .addLCstLong (o.withSrc1 0)
  | .mvS o => .addSCst (o.withSrc1 0)
  | .mvD o => .addDCst (o.withSrc1 0)
  | .negL o => .subLCst (o.withSrc1 0)
  | .negLLong o => .subLCstLong (o.withSrc1 0)
  | .negS o => .subSCst (o.withSrc1 0)
  | .notL o => .xorLCst (o.withSrc1 31)
  | .notS o => .xorSCst (o.withSrc1 31)
  | .zeroL o => .subLX o.all3
  | .zeroLLong o => .subLXToLong o.all3
  | .zeroS o => .subS o.all3
  | .zeroD o => .subD o.allD
  | .mvkl o => .mvk o
  | .mvklh o => .mvkh o

/-- The use of each instruction, from the operand types of the opcode maps (30_encoding.md R250 to R254). -/
def Instr.use : Instr → Use
  | .addL o => use3 .l .reg .xreg .reg o
  | .addLToLong o => use3 .l .reg .xreg .long o
  | .addLLong o => use3 .l .xreg .long .long o
  | .addLCst o => use3 .l .none .xreg .reg o
  | .addLCstLong o => use3 .l .none .long .long o
  | .addu o => use3 .l .reg .xreg .long o
  | .adduLong o => use3 .l .xreg .long .long o
  | .subL o => use3 .l .reg .xreg .reg o
  | .subLX o => use3 .l .xreg .reg .reg o
  | .subLToLong o => use3 .l .reg .xreg .long o
  | .subLXToLong o => use3 .l .xreg .reg .long o
  | .subLCst o => use3 .l .none .xreg .reg o
  | .subLCstLong o => use3 .l .none .long .long o
  | .subu o => use3 .l .reg .xreg .long o
  | .subuX o => use3 .l .xreg .reg .long o
  | .subc o => use3 .l .reg .xreg .reg o
  | .sadd o => use3 .l .reg .xreg .reg o
  | .saddLong o => use3 .l .xreg .long .long o
  | .saddCst o => use3 .l .none .xreg .reg o
  | .saddCstLong o => use3 .l .none .long .long o
  | .ssub o => use3 .l .reg .xreg .reg o
  | .ssubX o => use3 .l .xreg .reg .reg o
  | .ssubCst o => use3 .l .none .xreg .reg o
  | .ssubCstLong o => use3 .l .none .long .long o
  | .sat o => use3 .l .none .long .reg o
  | .abs o => use3 .l .none .xreg .reg o
  | .absLong o => use3 .l .none .long .long o
  | .andL o => use3 .l .reg .xreg .reg o
  | .andLCst o => use3 .l .none .xreg .reg o
  | .orL o => use3 .l .reg .xreg .reg o
  | .orLCst o => use3 .l .none .xreg .reg o
  | .xorL o => use3 .l .reg .xreg .reg o
  | .xorLCst o => use3 .l .none .xreg .reg o
  | .cmpeq o => use3 .l .reg .xreg .reg o
  | .cmpeqCst o => use3 .l .none .xreg .reg o
  | .cmpeqLong o => use3 .l .xreg .long .reg o
  | .cmpeqCstLong o => use3 .l .none .long .reg o
  | .cmpgt o => use3 .l .reg .xreg .reg o
  | .cmpgtCst o => use3 .l .none .xreg .reg o
  | .cmpgtLong o => use3 .l .xreg .long .reg o
  | .cmpgtCstLong o => use3 .l .none .long .reg o
  | .cmpgtu o => use3 .l .reg .xreg .reg o
  | .cmpgtuCst o => use3 .l .none .xreg .reg o
  | .cmpgtuLong o => use3 .l .xreg .long .reg o
  | .cmpgtuCstLong o => use3 .l .none .long .reg o
  | .cmplt o => use3 .l .reg .xreg .reg o
  | .cmpltCst o => use3 .l .none .xreg .reg o
  | .cmpltLong o => use3 .l .xreg .long .reg o
  | .cmpltCstLong o => use3 .l .none .long .reg o
  | .cmpltu o => use3 .l .reg .xreg .reg o
  | .cmpltuCst o => use3 .l .none .xreg .reg o
  | .cmpltuLong o => use3 .l .xreg .long .reg o
  | .cmpltuCstLong o => use3 .l .none .long .reg o
  | .lmbd o => use3 .l .reg .xreg .reg o
  | .lmbdCst o => use3 .l .none .xreg .reg o
  | .norm o => use3 .l .none .xreg .reg o
  | .normLong o => use3 .l .none .long .reg o
  | .mpy o => use3 .m .reg .xreg .reg o
  | .mpyCst o => use3 .m .none .xreg .reg o
  | .mpyu o => use3 .m .reg .xreg .reg o
  | .mpyus o => use3 .m .reg .xreg .reg o
  | .mpysu o => use3 .m .reg .xreg .reg o
  | .mpysuCst o => use3 .m .none .xreg .reg o
  | .mpyh o => use3 .m .reg .xreg .reg o
  | .mpyhu o => use3 .m .reg .xreg .reg o
  | .mpyhus o => use3 .m .reg .xreg .reg o
  | .mpyhsu o => use3 .m .reg .xreg .reg o
  | .mpyhl o => use3 .m .reg .xreg .reg o
  | .mpyhlu o => use3 .m .reg .xreg .reg o
  | .mpyhuls o => use3 .m .reg .xreg .reg o
  | .mpyhslu o => use3 .m .reg .xreg .reg o
  | .mpylh o => use3 .m .reg .xreg .reg o
  | .mpylhu o => use3 .m .reg .xreg .reg o
  | .mpyluhs o => use3 .m .reg .xreg .reg o
  | .mpylshu o => use3 .m .reg .xreg .reg o
  | .smpy o => use3 .m .reg .xreg .reg o
  | .smpyh o => use3 .m .reg .xreg .reg o
  | .smpyhl o => use3 .m .reg .xreg .reg o
  | .smpylh o => use3 .m .reg .xreg .reg o
  | .addS o => use3 .s .reg .xreg .reg o
  | .addSCst o => use3 .s .none .xreg .reg o
  | .subS o => use3 .s .reg .xreg .reg o
  | .subSCst o => use3 .s .none .xreg .reg o
  | .add2 o => use3 .s .reg .xreg .reg o
  | .sub2 o => use3 .s .reg .xreg .reg o
  | .andS o => use3 .s .reg .xreg .reg o
  | .andSCst o => use3 .s .none .xreg .reg o
  | .orS o => use3 .s .reg .xreg .reg o
  | .orSCst o => use3 .s .none .xreg .reg o
  | .xorS o => use3 .s .reg .xreg .reg o
  | .xorSCst o => use3 .s .none .xreg .reg o
  | .shl o => use3 .s .reg .xreg .reg o
  | .shlLong o => use3 .s .reg .long .long o
  | .shlToLong o => use3 .s .reg .xreg .long o
  | .shlCst o => use3 .s .none .xreg .reg o
  | .shlCstLong o => use3 .s .none .long .long o
  | .shlCstToLong o => use3 .s .none .xreg .long o
  | .shr o => use3 .s .reg .xreg .reg o
  | .shrLong o => use3 .s .reg .long .long o
  | .shrCst o => use3 .s .none .xreg .reg o
  | .shrCstLong o => use3 .s .none .long .long o
  | .shru o => use3 .s .reg .xreg .reg o
  | .shruLong o => use3 .s .reg .long .long o
  | .shruCst o => use3 .s .none .xreg .reg o
  | .shruCstLong o => use3 .s .none .long .long o
  | .sshl o => use3 .s .reg .xreg .reg o
  | .sshlCst o => use3 .s .none .xreg .reg o
  | .setReg o => use3 .s .reg .xreg .reg o
  | .clrReg o => use3 .s .reg .xreg .reg o
  | .extReg o => use3 .s .reg .xreg .reg o
  | .extuReg o => use3 .s .reg .xreg .reg o
  | .mvcRead o => useS2 .none .reg o
  | .mvcWrite o => useS2 .xreg .none o
  | .bReg o => useS2 .xreg .none o
  | .bIrp o => useRet o
  | .bNrp o => useRet o
  | .addD o => useD .reg o
  | .addDCst o => useD .none o
  | .subD o => useD .reg o
  | .subDCst o => useD .none o
  | .addab o => useD .reg o
  | .addabCst o => useD .none o
  | .addah o => useD .reg o
  | .addahCst o => useD .none o
  | .addaw o => useD .reg o
  | .addawCst o => useD .none o
  | .subab o => useD .reg o
  | .subabCst o => useD .none o
  | .subah o => useD .reg o
  | .subahCst o => useD .none o
  | .subaw o => useD .reg o
  | .subawCst o => useD .none o
  | .addk o => useK true o
  | .mvk o => useK false o
  | .mvkh o => useK true o
  | .extu o => useField o
  | .ext o => useField o
  | .set o => useField o
  | .clr o => useField o
  | .bDisp o => { unit := some (.s, o.side) }
  | .ldhu o => useMem false o
  | .ldbu o => useMem false o
  | .ldb o => useMem false o
  | .stb o => useMem true o
  | .ldh o => useMem false o
  | .sth o => useMem true o
  | .ldw o => useMem false o
  | .stw o => useMem true o
  | .ldhu15 o => useMem15 false o
  | .ldbu15 o => useMem15 false o
  | .ldb15 o => useMem15 false o
  | .stb15 o => useMem15 true o
  | .ldh15 o => useMem15 false o
  | .sth15 o => useMem15 true o
  | .ldw15 o => useMem15 false o
  | .stw15 o => useMem15 true o
  | .nop _ => {}
  | .nop9 => {}
  | .idle => {}
  | .mvL o => use3 .l .none .xreg .reg (o.withSrc1 0)
  | .mvLLong o => use3 .l .none .long .long (o.withSrc1 0)
  | .mvS o => use3 .s .none .xreg .reg (o.withSrc1 0)
  | .mvD o => useD .none (o.withSrc1 0)
  | .negL o => use3 .l .none .xreg .reg (o.withSrc1 0)
  | .negLLong o => use3 .l .none .long .long (o.withSrc1 0)
  | .negS o => use3 .s .none .xreg .reg (o.withSrc1 0)
  | .notL o => use3 .l .none .xreg .reg (o.withSrc1 31)
  | .notS o => use3 .s .none .xreg .reg (o.withSrc1 31)
  | .zeroL o => use3 .l .xreg .reg .reg o.all3
  | .zeroLLong o => use3 .l .xreg .reg .long o.all3
  | .zeroS o => use3 .s .reg .xreg .reg o.all3
  | .zeroD o => useD .reg o.allD
  | .mvkl o => useK false o
  | .mvklh o => useK true o

end Sys2Proof
end

