-- ==== Sys2Proof/WellFormed.lean ====
section
/-! DEFINITION. Why a word is no instruction of the C62x (30_encoding.md R248), and the checks on an instruction's
fields that its type does not make. -/

namespace Sys2Proof

/-- Why a word is refused: the cases of 30_encoding.md R248. -/
inductive DecodeError where
  /-- (a) bits 6 to 2 are of no format -/
  | noFormat
  /-- (b) an op value that no opcode map lists for the unit -/
  | unlistedOp
  /-- (c) the NOP shape with src 9 to 14 or a reserved bit set (R245) -/
  | badNop
  /-- (d) a reserved condition code (R214) -/
  | reservedCondition
  /-- (e) a load or store with r = 1 (R232) -/
  | rBitSet
  /-- (f) a register field that holds 16 to 31 (R222) -/
  | badRegister
  /-- (f) an odd number where a pair is named (R223) -/
  | oddPair
  /-- (g) an instruction of .S2 only with s = 0 -/
  | notOnS2
  /-- (h) an addressing mode that Table 3-6 does not list (43_load_store.md R553) -/
  | unlistedMode
deriving DecidableEq, Repr

/-- The first check that the fields of an instruction fail, if any (30_encoding.md R248 (f), (g)). -/
def Instr.fieldError (i : Instr) : Option DecodeError :=
  if i.use.names.all (fun f => f < 16) then
    if i.use.pairs.all (fun f => f.getLsbD 0 == false) then
      if i.use.wrongSide then some .notOnS2 else none
    else some .oddPair
  else some .badRegister

/-- Every register field is a register of the C62x, every pair an even:odd pair, and the unit is one that has the
instruction. -/
abbrev Instr.WellFormed (i : Instr) : Prop :=
  i.fieldError = none

end Sys2Proof
end

