-- ==== Sys2Proof/Machine/State.lean ====
section
/-! DEFINITION. The state of the machine as plain data (10_state.md), the reasons a step can stop, and the state after
reset. -/

namespace Sys2Proof.Machine

/-- Why a step stops although the word is an instruction: the model-level faults of 60_exceptions.md R701, each the
spec's own name for behaviour that the source leaves undefined.  All are safe: the machine stops where the hardware does
something unstated, so nothing can be proved beyond that point. -/
inductive Fault where
  /-- An MVC names a control register address that Table 3-16 does not allow (10_state.md R60, D14).  Safe. -/
  | badControlRegister
  /-- A taken B register, B IRP or B NRP whose target is not a multiple of 4 (44_branch.md R601, D11).  Safe. -/
  | misalignedBranchTarget
  /-- Two branches of one execute packet are both taken (44_branch.md R602, D38).  Safe. -/
  | doubleBranch
  /-- Sequential advance past FFFF FFFFh (10_state.md R54, D13).  Safe. -/
  | pcWrap
  /-- An address is formed through a register whose AMR mode field is 3 (10_state.md R63, D41).  Safe. -/
  | reservedAddressingMode
  /-- A halfword or word access at an address that is not a multiple of its size (20_memory.md R156, D6).  Safe. -/
  | misalignedAccess
  /-- A load, store or fetch at an address where the memory map has nothing for it (20_memory.md R143, D25).  Safe. -/
  | unmappedAccess
  /-- A load or fetch of a byte that nothing has defined (20_memory.md R146, D29).  Safe. -/
  | uninitialisedMemory
  /-- A store into the declared program text (20_memory.md R186, D18).  Safe. -/
  | storeToProgram
  /-- Two stores of one execute packet share a byte (20_memory.md R182, D26).  Safe. -/
  | storeStoreConflict
  /-- Two writes land in one general register in one cycle (70_reset_and_hazards.md R820, D21).  Safe. -/
  | writeConflict
  /-- An MVC to CSR writes a reserved PWRD value (60_exceptions.md R762, D28).  Safe. -/
  | reservedPowerDown
deriving DecidableEq, Repr

/-- The resource constraint an execute packet breaks (70_reset_and_hazards.md section 2). -/
inductive PacketError where
  /-- two instructions on one functional unit (R810) -/
  | unitTwice
  /-- two words use one cross path (R812) -/
  | crossPathTwice
  /-- two loads or stores with their data in one register file (R822) -/
  | dataPathTwice
  /-- two long results of one register file (R824 (a)) -/
  | longResultTwice
  /-- two long sources of one register file (R824 (b)) -/
  | longSourceTwice
  /-- a long source and a store from one register file (R824 (c)) -/
  | longSourceWithStore
  /-- more than four reads of one register (R826) -/
  | fiveReads
  /-- p = 1 in the last word of a fetch packet (30_encoding.md R207) -/
  | crossesFetchPacket
deriving DecidableEq, Repr

/-- Why a step has no meaning in this model. -/
inductive Refusal where
  /-- Raised by an arm of `exec` for an instruction not modelled yet, by its mnemonic.  Safe. -/
  | notModelled (mnemonic : String)
  /-- Raised by the issue of a packet that holds a word that is no instruction, `IllegalPacket` of 30_encoding.md R248.
  Safe. -/
  | illegalWord (why : DecodeError)
  /-- Raised by the issue of a packet that breaks a resource constraint, `IllegalPacket` of 70_reset_and_hazards.md R815.
  Safe. -/
  | illegalPacket (why : PacketError)
  /-- Raised by a load or store in a peripheral's window, whose behaviour no source gives (00_scope.md R7 (a)).
  Safe. -/
  | peripheralAccess
deriving DecidableEq, Repr

/-- Memory: the bytes that hold a value, addresses strictly rising; an address not listed holds no value
(20_memory.md R146, D29). -/
abbrev Memory := List Host.Cell

/-- A register file of 16 registers of 32 bits (10_state.md R40). -/
abbrev RegFile := Vector Word 16

/-- A write of a general register that lands at the end of the current cycle. -/
structure RegWrite where
  side : Side
  reg : BitVec 4
  value : Word
deriving DecidableEq, Repr

/-- An entry of `PendingRegWrites` (10_state.md R78). -/
structure LateWrite where
  write : RegWrite
  left : Nat
deriving DecidableEq, Repr

/-- An entry of `PendingBranches` (10_state.md R78). -/
structure PendingBranch where
  target : Word
  left : Nat
deriving DecidableEq, Repr

/-- `PendingIfrCmd`: the ISR or ICR command in flight, as masks over IFR bits 15 to 4 (10_state.md R78). -/
structure IfrCommand where
  set : BitVec 16 := 0
  clear : BitVec 16 := 0
deriving DecidableEq, Repr

/-- `NopLeft`: held cycles still to pass, or the IDLE state (10_state.md R78). -/
inductive Hold where
  | count (n : Nat)
  | idle
deriving DecidableEq, Repr

/-- `PowerDown`: the power-down mode in force (60_exceptions.md R761). -/
inductive Power where
  | none
  /-- PWRD = 9h: PD1, wake by an enabled interrupt -/
  | pd1Enabled
  /-- PWRD = 11h: PD1, wake by any interrupt -/
  | pd1Any
  /-- PWRD = 1Ah: PD2, wake by reset -/
  | pd2
  /-- PWRD = 1Ch: PD3, wake by reset -/
  | pd3
deriving DecidableEq, Repr

/-- A control-register write that an instruction in E1 has asked for (45_move_control.md R631, 44_branch.md R615,
R620).  At most one comes from a packet: they all use .S2. -/
inductive CtrlWrite where
  | amr (v : Word)
  /-- a write of CSR and the value it leaves in SAT if no functional unit sets it -/
  | csr (v : Word) (sat : Bool)
  | isr (v : Word)
  | icr (v : Word)
  | ier (v : Word)
  | istp (v : Word)
  | irp (v : Word)
  | nrp (v : Word)
  /-- B IRP: GIE <- PGIE -/
  | returnIrp
  /-- B NRP: NMIE <- 1 -/
  | returnNrp
deriving DecidableEq, Repr

/-- What the environment does in one cycle (60_exceptions.md R790): `Reset`, and `IntArrive m` for each bit m set. -/
structure EnvCycle where
  reset : Bool
  arrive : BitVec 16
deriving DecidableEq, Repr

/-- The effects that the instructions in E1 have worked out in this cycle and that the end of the cycle applies
(70_reset_and_hazards.md R804 steps B and D).  The model's own; empty between cycles (log 38). -/
structure Effects where
  /-- zero-delay register writes -/
  regs : List RegWrite := []
  /-- register writes with delay slots -/
  late : List LateWrite := []
  /-- bytes stored -/
  stores : List Host.Cell := []
  /-- the target of the taken branch -/
  branch : Option Word := Option.none
  /-- a branch instruction was in E1, whatever its condition -/
  branchSeen : Bool := false
  /-- requests to set SAT, by cycles left -/
  sat : List Nat := []
  /-- control-register writes -/
  ctrl : List CtrlWrite := []
  /-- the hold that a NOP or IDLE asks for -/
  hold : Hold := .count 0
deriving DecidableEq, Repr

/-- The state of the machine.  INVENTORY.md lists each field with the rule that names it and its reset value. -/
structure State where
  /-- A0 to A15 -/
  a : RegFile
  /-- B0 to B15 -/
  b : RegFile
  /-- address of the next execute packet to enter E1 (10_state.md R51) -/
  pc : Word
  amr : Word
  csr : Word
  ifr : Word
  ier : Word
  /-- ISTP.ISTB (10_state.md R73) -/
  istb : BitVec 22
  irp : Word
  nrp : Word
  /-- data memory and unified memory -/
  mem : Memory
  /-- program memory where it is a space of its own -/
  prog : Memory
  pendingRegs : List LateWrite
  pendingBranches : List PendingBranch
  branchShadow : Nat
  pendingSat : List Nat
  pendingIfr : IfrCommand
  /-- `NopLeft` -/
  hold : Hold
  /-- `IntLatch`, bit m for interrupt m -/
  intLatch : BitVec 16
  intHold : Nat
  /-- the number of the interrupt whose entry is in progress or was the last -/
  entering : BitVec 4
  /-- IACK as driven in the cycle that has just ended -/
  iack : Bool
  /-- INUM3 to INUM0 as driven in the cycle that has just ended -/
  inum : BitVec 4
  power : Power
  /-- the launch record; no step changes it -/
  launch : Config.Launch
  /-- the environment's schedule, one entry for each coming cycle -/
  env : List EnvCycle
  /-- the model's own: effects of the packet in E1 -/
  e1 : Effects
  /-- the model's own: how many free values have been drawn -/
  freeIdx : Nat
deriving DecidableEq, Repr

/-- A register file with 0 in every register (DESIGN CHOICE, log 1). -/
def RegFile.zeros : RegFile := Vector.replicate 16 0

/-- CSR at reset: CPU ID 0, the revision, EN the byte order, every other field 0 (10_state.md R80). -/
def csrReset (revision : BitVec 8) (little : Bool) : Word :=
  0#8 ++ revision ++ 0#7 ++ BitVec.ofBool little ++ 0#8

/-- The state after reset of a machine launched with the given parameters (10_state.md R80, 70_reset_and_hazards.md
R875, R881), memory empty.  General registers, IRP and NRP: DESIGN CHOICE 0 (logs 1, 2). -/
def State.resetWith (launch : Config.Launch) (revision : BitVec 8) (little : Bool) : State :=
  { a := RegFile.zeros
    b := RegFile.zeros
    pc := launch.istbReset ++ 0#10
    amr := 0
    csr := csrReset revision little
    ifr := 0
    ier := 1
    istb := launch.istbReset
    irp := 0
    nrp := 0
    mem := []
    prog := []
    pendingRegs := []
    pendingBranches := []
    branchShadow := 0
    pendingSat := []
    pendingIfr := {}
    hold := .count 0
    intLatch := 0
    intHold := 0
    entering := 0
    iack := false
    inum := 0
    power := .none
    launch := launch
    env := []
    e1 := {}
    freeIdx := 0 }

/-- The machine right after reset, with the launch values of Config.lean (DESIGN CHOICE, logs 3 to 8). -/
def State.reset : State :=
  State.resetWith Config.defaultLaunch Config.defaultRevision Config.defaultLittleEndian

/-- What a step answers. -/
abbrev Out := Host.Outcome State Fault Refusal

/-- How a part of a step ends without a result. -/
inductive Stop where
  | fault (f : Fault)
  | refused (r : Refusal)
deriving DecidableEq, Repr

end Sys2Proof.Machine
end

