-- ==== Sys2Proof/Machine/Ops.lean ====
section
/-! DEFINITION. The named operations over registers, memory, control registers and the effects of the packet in E1, and
the two shared operations of interrupts: entry and return. -/

namespace Sys2Proof.Machine

/-! ## Registers -/

/-- The value of a register (10_state.md R40). -/
def RegFile.read (f : RegFile) (n : BitVec 4) : Word :=
  f[n.toNat]

/-- A register file with one register written. -/
def RegFile.write (f : RegFile) (n : BitVec 4) (v : Word) : RegFile :=
  f.set n.toNat v

/-- The register file of a side. -/
def State.file (s : State) : Side → RegFile
  | .a => s.a
  | .b => s.b

/-- `R[side, field]`: the register that the low four bits of a field name (10_state.md R41). -/
def State.reg (s : State) (side : Side) (field : BitVec 5) : Word :=
  (s.file side).read (field.setWidth 4)

/-- `Long(side, field)`: the low 8 bits of the odd register above the even register (10_state.md R44). -/
def State.long (s : State) (side : Side) (field : BitVec 5) : Long :=
  (s.reg side (field + 1)).setWidth 8 ++ s.reg side field

/-- One register write applied. -/
def State.writeReg (s : State) (w : RegWrite) : State :=
  match w.side with
  | .a => { s with a := s.a.write w.reg w.value }
  | .b => { s with b := s.b.write w.reg w.value }

/-- The value of a condition register. -/
def State.creg (s : State) : CReg → Word
  | .b0 => s.reg .b 0
  | .b1 => s.reg .b 1
  | .b2 => s.reg .b 2
  | .a1 => s.reg .a 1
  | .a2 => s.reg .a 2

/-- `cond`: the condition's value at the start of the cycle (30_encoding.md R212). -/
def State.holds (s : State) : Cond → Bool
  | .always => true
  | .nonzero r => s.creg r != 0
  | .zero r => s.creg r == 0

/-- `if cond then k else nop` (30_encoding.md R213). -/
def State.onCond (s : State) (c : Cond) (k : Out) : Out :=
  if s.holds c then k else .next s

/-- The outcome of a computation that may stop. -/
def outcome : Except Stop State → Out
  | .ok s => .next s
  | .error (.fault f) => .fault f
  | .error (.refused r) => .refused r

/-! ## Free values (log 10) -/

/-- The free word of the next draw. -/
def State.freeWord (s : State) : Word :=
  Config.freeWord s.freeIdx

/-- The free bit of the next draw. -/
def State.freeBit (s : State) : Bool :=
  Config.freeBit s.freeIdx

/-- The state after a draw. -/
def State.drawn (s : State) : State :=
  { s with freeIdx := s.freeIdx + 1 }

/-! ## Effects of the packet in E1 (70_reset_and_hazards.md R804 step B) -/

/-- `R[side, field] <- v`: a write with zero delay slots. -/
def State.putReg (s : State) (side : Side) (field : BitVec 5) (v : Word) : State :=
  { s with e1 := { s.e1 with regs := s.e1.regs ++ [{ side := side, reg := field.setWidth 4, value := v }] } }

/-- `Long(side, field) <- v`: the odd register zero-filled above its low 8 bits (10_state.md R44). -/
def State.putLong (s : State) (side : Side) (field : BitVec 5) (v : Long) : State :=
  (s.putReg side field (v.setWidth 32)).putReg side (field + 1) ((v.extractLsb' 32 8).setWidth 32)

/-- `R[side, field] <-(d) v`: a write with d delay slots (70_reset_and_hazards.md R803). -/
def State.putLate (s : State) (side : Side) (field : BitVec 5) (v : Word) (d : Nat) : State :=
  { s with e1 := { s.e1 with
      late := s.e1.late ++ [{ write := { side := side, reg := field.setWidth 4, value := v }, left := d }] } }

/-- `SetSat(d)` (40_arith.md R301, 42_multiply.md R519). -/
def State.requestSat (s : State) (d : Nat) : State :=
  { s with e1 := { s.e1 with sat := s.e1.sat ++ [d] } }

/-- A control-register write asked for. -/
def State.putCtrl (s : State) (c : CtrlWrite) : State :=
  { s with e1 := { s.e1 with ctrl := s.e1.ctrl ++ [c] } }

/-- The longer of two holds; IDLE has no bound (45_move_control.md R653, log 35). -/
def Hold.max : Hold → Hold → Hold
  | .count m, .count n => .count (Nat.max m n)
  | .count _, .idle => .idle
  | .idle, _ => .idle

/-- The hold of a NOP or IDLE (45_move_control.md R652, R653, R655). -/
def State.putHold (s : State) (h : Hold) : State :=
  { s with e1 := { s.e1 with hold := s.e1.hold.max h } }

/-- A branch instruction is in E1, taken or not (60_exceptions.md R722). -/
def State.noteBranch (s : State) : State :=
  { s with e1 := { s.e1 with branchSeen := true } }

/-- `pc <-(5) target`: a taken branch.  A target that is not a multiple of 4 and a second taken branch of the packet are
faults (44_branch.md R601, R602).  DESIGN CHOICE: the spec orders neither before the other; a branch that is both is
reported as misalignedBranchTarget (log 49). -/
def State.takeBranch (s : State) (target : Word) : Except Stop State :=
  if target.extractLsb' 0 2 ≠ 0 then .error (.fault .misalignedBranchTarget)
  else match s.e1.branch with
    | some _ => .error (.fault .doubleBranch)
    | none => .ok { s with e1 := { s.e1 with branch := some target } }

/-! ## Memory (20_memory.md) -/

/-- The byte at an address, if it has a value. -/
def Memory.read : Memory → Nat → Option Byte
  | [], _ => none
  | c :: m, a => if c.1 = a then some c.2 else Memory.read m a

/-- Memory with one byte written, addresses still rising. -/
def Memory.write : Memory → Nat → Byte → Memory
  | [], a, v => [(a, v)]
  | c :: m, a, v =>
    if a < c.1 then (a, v) :: c :: m
    else if a = c.1 then (a, v) :: m
    else c :: Memory.write m a v

/-- Memory with a list of bytes written in order. -/
def Memory.writeAll (m : Memory) (cells : List Host.Cell) : Memory :=
  cells.foldl (fun m c => m.write c.1 c.2) m

/-- The addresses rise strictly from `low` on and lie in the 32-bit space (20_memory.md R140). -/
def Memory.risingFrom : Nat → Memory → Bool
  | _, [] => true
  | low, c :: m => decide (low ≤ c.1) && decide (c.1 < 4294967296) && Memory.risingFrom (c.1 + 1) m

/-- The one canonical form of a memory. -/
def Memory.wf (m : Memory) : Bool :=
  Memory.risingFrom 0 m

/-- The access widths (20_memory.md R158). -/
inductive Width where
  | byte
  | half
  | word
deriving DecidableEq, Repr

/-- The bytes of an access. -/
def Width.bytes : Width → Nat
  | .byte => 1
  | .half => 2
  | .word => 4

/-- The scale k of an offset (43_load_store.md R550). -/
def Width.scale : Width → Nat
  | .byte => 0
  | .half => 1
  | .word => 2

/-- The address is a multiple of the width (20_memory.md R155). -/
def Width.aligned (w : Width) (a : Word) : Bool :=
  a.toNat % w.bytes == 0

/-- An address lies in a region. -/
def regionHas (r : Config.Region) (a : Nat) : Bool :=
  decide (r.base ≤ a) && decide (a < r.base + r.size)

/-- The space is reached by loads and stores; a peripheral's registers are data-space addresses (20_memory.md R141). -/
def reachedByData : Config.Space → Bool
  | .program => false
  | .data => true
  | .unified => true
  | .peripheral => true

/-- The space is reached by instruction fetch (20_memory.md R141). -/
def reachedByFetch : Config.Space → Bool
  | .program => true
  | .data => false
  | .unified => true
  | .peripheral => false

/-- The region that answers a load or store at an address: the first in the data space (20_memory.md R141, log 6). -/
def State.dataRegion (s : State) (a : Nat) : Option Config.Region :=
  s.launch.map.find? (fun r => regionHas r a && reachedByData r.space)

/-- The region that answers a fetch at an address: the first in the program space (20_memory.md R141, log 6). -/
def State.fetchRegion (s : State) (a : Nat) : Option Config.Region :=
  s.launch.map.find? (fun r => regionHas r a && reachedByFetch r.space)

/-- A load or store may touch the byte: it is mapped, and not a peripheral's (20_memory.md R143; log 6). -/
def State.checkData (s : State) (a : Nat) : Except Stop Unit :=
  match s.dataRegion a with
  | none => .error (.fault .unmappedAccess)
  | some r => if r.space = .peripheral then .error (.refused .peripheralAccess) else .ok ()

/-- The byte is program text in memory that stores reach (20_memory.md R186, D18). -/
def State.isText (s : State) (a : Nat) : Bool :=
  (s.dataRegion a).any (fun r => r.space == .unified)
    && s.launch.text.any (fun t => decide (t.base ≤ a) && decide (a < t.base + t.size))

/-- EN: the byte order (20_memory.md R150). -/
def State.littleEndian (s : State) : Bool :=
  s.csr.getLsbD 8

/-- Bytes in address order to a value, zero-extended (20_memory.md R150, R151). -/
def joinBytes (little : Bool) (bs : List Byte) : Word :=
  (if little then bs.reverse else bs).foldl (fun acc b => (acc <<< 8) ||| b.setWidth 32) 0

/-- The low n bytes of a value in address order (20_memory.md R150, R151). -/
def splitBytes (little : Bool) (n : Nat) (v : Word) : List Byte :=
  let bs := (List.range n).map (fun i => v.extractLsb' (8 * i) 8)
  if little then bs else bs.reverse

/-- One byte loaded. -/
def State.loadByte (s : State) (a : Nat) : Except Stop Byte := do
  s.checkData a
  match s.mem.read a with
  | some b => .ok b
  | none => .error (.fault .uninitialisedMemory)

/-- The bytes at a, a + 1, ..., in that order. -/
def State.loadBytes (s : State) (a : Nat) : Nat → Except Stop (List Byte)
  | 0 => .ok []
  | n + 1 => do
    let b ← s.loadByte a
    let bs ← s.loadBytes (a + 1) n
    .ok (b :: bs)

/-- `MemRead(a, n)`, zero-extended to 32 bits.  It reads memory as it was before the packet's stores (20_memory.md
R182).  DESIGN CHOICE: of several faults of one load, misalignedAccess is reported first, then those of its bytes in
address order (log 49). -/
def State.memRead (s : State) (w : Width) (a : Word) : Except Stop Word :=
  if w.aligned a then do
    let bs ← s.loadBytes a.toNat w.bytes
    .ok (joinBytes s.littleEndian bs)
  else .error (.fault .misalignedAccess)

/-- The bytes a store puts into memory (20_memory.md R150, R151). -/
def State.storeCells (s : State) (w : Width) (a : Word) (v : Word) : List Host.Cell :=
  (List.range' a.toNat w.bytes).zip (splitBytes s.littleEndian w.bytes v)

/-- Every byte of an access may be touched. -/
def State.checkBytes (s : State) (a : Nat) : Nat → Except Stop Unit
  | 0 => .ok ()
  | n + 1 => do
    s.checkData a
    s.checkBytes (a + 1) n

/-- `MemWrite(a, n, v)`: the bytes join the stores of the packet (20_memory.md R156, R143, R186, R182).  DESIGN CHOICE:
the spec does not order the faults of one store; they are looked for as misalignedAccess, the map, storeToProgram,
storeStoreConflict, so that a store both into program text and onto a byte of the packet's other store is storeToProgram
(log 49). -/
def State.memWrite (s : State) (w : Width) (a : Word) (v : Word) : Except Stop State :=
  if w.aligned a then do
    s.checkBytes a.toNat w.bytes
    if (List.range' a.toNat w.bytes).any s.isText then .error (.fault .storeToProgram)
    else if (List.range' a.toNat w.bytes).any (fun n => s.e1.stores.any (fun c => c.1 == n)) then
      .error (.fault .storeStoreConflict)
    else .ok { s with e1 := { s.e1 with stores := s.e1.stores ++ s.storeCells w a v } }
  else .error (.fault .misalignedAccess)

/-! ## Control registers (10_state.md section 4) -/

/-- CSR.GIE. -/
def State.gie (s : State) : Bool := s.csr.getLsbD 0

/-- CSR.PGIE. -/
def State.pgie (s : State) : Bool := s.csr.getLsbD 1

/-- CSR.SAT. -/
def State.satBit (s : State) : Bool := s.csr.getLsbD 9

/-- IER.NMIE. -/
def State.nmie (s : State) : Bool := s.ier.getLsbD 1

/-- A word with one bit given a value. -/
def setBit (v : Word) (i : Nat) (b : Bool) : Word :=
  if b then v ||| BitVec.twoPow 32 i else v &&& ~~~(BitVec.twoPow 32 i)

/-- The interrupts of {1, 4, ..., 15} (60_exceptions.md R702). -/
def interruptMask : BitVec 16 := 0xFFF2

/-- The interrupts of {4, ..., 15}, those ISR and ICR reach (10_state.md R70). -/
def maskableMask : BitVec 16 := 0xFFF0

/-- The interrupts that are pending and enabled in IER, NMI by NMIE (10_state.md R73, 60_exceptions.md R722). -/
def candidates (ifr ier : Word) : BitVec 16 :=
  (ifr &&& ier).setWidth 16 &&& interruptMask

/-- The lowest number in a set of interrupts: the highest priority (60_exceptions.md R704). -/
def lowestSet (v : BitVec 16) : Option (BitVec 4) :=
  ((List.range 16).find? (fun m => v.getLsbD m)).map (BitVec.ofNat 4)

/-- ISTP.HPEINT (10_state.md R73). -/
def State.hpeint (s : State) : BitVec 4 :=
  (lowestSet (candidates s.ifr s.ier)).getD 0

/-- The address of an interrupt's entry in the service table: ISTB * 1024 + 32 * m (60_exceptions.md R706, R708). -/
def State.entryAddress (s : State) (m : BitVec 4) : Word :=
  s.istb ++ (0#1 ++ m ++ 0#5)

/-- PCE1: the fetch packet in E1 (10_state.md R75). -/
def State.pce1 (s : State) : Word :=
  s.pc &&& 0xFFFFFFE0

/-- `ReadCR` (45_move_control.md R630). -/
def State.readCtrl (s : State) (address : BitVec 5) : Except Stop Word :=
  match address.toNat with
  | 0 => .ok (s.amr &&& 0x03FFFFFF)
  | 1 => .ok s.csr
  | 2 => .ok (s.ifr &&& 0x0000FFF3)
  | 4 => .ok ((s.ier &&& 0x0000FFF2) ||| 1)
  | 5 => .ok (s.entryAddress s.hpeint)
  | 6 => .ok s.irp
  | 7 => .ok s.nrp
  | 16 => .ok s.pce1
  | _ => .error (.fault .badControlRegister)

/-- The power-down mode of a PWRD value (10_state.md R64); none for a reserved value (60_exceptions.md R762). -/
def powerOf (pwrd : BitVec 6) : Option Power :=
  match pwrd.toNat with
  | 0x00 => some .none
  | 0x09 => some .pd1Enabled
  | 0x11 => some .pd1Any
  | 0x1A => some .pd2
  | 0x1C => some .pd3
  | _ => none

/-- MVC to CSR: SAT is cleared by a 0; by a 1 it becomes a free one of {old SAT, 0} (10_state.md R65, D5). -/
def State.writeCsr (s : State) (v : Word) : Except Stop State :=
  match powerOf (v.extractLsb' 10 6) with
  | none => .error (.fault .reservedPowerDown)
  | some _ =>
    if v.getLsbD 9 then .ok (s.drawn.putCtrl (.csr v (s.satBit && s.freeBit)))
    else .ok (s.putCtrl (.csr v false))

/-- `WriteCR` (45_move_control.md R631): the write is asked for and lands at the end of the cycle. -/
def State.writeCtrl (s : State) (address : BitVec 5) (v : Word) : Except Stop State :=
  match address.toNat with
  | 0 => .ok (s.putCtrl (.amr v))
  | 1 => s.writeCsr v
  | 2 => .ok (s.putCtrl (.isr v))
  | 3 => .ok (s.putCtrl (.icr v))
  | 4 => .ok (s.putCtrl (.ier v))
  | 5 => .ok (s.putCtrl (.istp v))
  | 6 => .ok (s.putCtrl (.irp v))
  | 7 => .ok (s.putCtrl (.nrp v))
  | _ => .error (.fault .badControlRegister)

/-- A control-register write landing at the end of the cycle (45_move_control.md R631, 44_branch.md R615, R620). -/
def State.applyCtrl (s : State) : CtrlWrite → State
  | .amr v => { s with amr := v &&& 0x03FFFFFF }
  | .csr v sat =>
    { s with
      csr := setBit ((s.csr &&& 0xFFFF0100) ||| (v &&& 0x0000FCFF)) 9 sat
      power := (powerOf (v.extractLsb' 10 6)).getD .none }
  | .isr v => { s with pendingIfr := { s.pendingIfr with set := s.pendingIfr.set ||| (v.setWidth 16 &&& maskableMask) } }
  | .icr v =>
    { s with pendingIfr := { s.pendingIfr with clear := s.pendingIfr.clear ||| (v.setWidth 16 &&& maskableMask) } }
  | .ier v => { s with ier := (s.ier &&& 0xFFFF000F) ||| (v &&& 0x0000FFF2) }
  | .istp v => { s with istb := v.extractLsb' 10 22 }
  | .irp v => { s with irp := v }
  | .nrp v => { s with nrp := v }
  | .returnIrp => { s with csr := setBit s.csr 0 s.pgie }
  | .returnNrp => { s with ier := setBit s.ier 1 true }

/-! ## Taking an interrupt, and returning from one -/

/-- Interrupt entry for number m at the end of a cycle (60_exceptions.md R730, R731, R733, R737, R738): the return
pointer, the enables, the seven held cycles and the service table entry.  `pc` is already the first packet not
executed. -/
def State.takeInterrupt (s : State) (m : BitVec 4) : State :=
  let saved : State :=
    if m = 1 then { s with nrp := s.pc, ier := setBit s.ier 1 false }
    else { s with irp := s.pc, csr := setBit (setBit s.csr 1 s.gie) 0 false }
  { saved with hold := .count 0, intHold := 7, entering := m, pc := s.entryAddress m }

/-- B IRP: the branch to IRP, and GIE <- PGIE (44_branch.md R615). -/
def State.returnFromInterrupt (s : State) : Except Stop State := do
  let t ← s.takeBranch s.irp
  .ok (t.putCtrl .returnIrp)

/-- B NRP: the branch to NRP, and NMIE <- 1 (44_branch.md R620). -/
def State.returnFromNmi (s : State) : Except Stop State := do
  let t ← s.takeBranch s.nrp
  .ok (t.putCtrl .returnNrp)

/-- The event `Reset` (60_exceptions.md R745, 10_state.md R79, R80): every register to its reset value, all that is in
flight dropped; memory, the launch record and the rest of the schedule stay.  `IntAck(0)` is driven (log 43). -/
def State.resetEvent (s : State) : State :=
  { State.resetWith s.launch (s.csr.extractLsb' 16 8) s.littleEndian with
    mem := s.mem
    prog := s.prog
    env := s.env
    freeIdx := s.freeIdx
    iack := true
    inum := 0 }

end Sys2Proof.Machine
end

