-- ==== Sys2Proof/Machine/Flags.lean ====
section
/-! DEFINITION. Saturation and SAT, the one status flag of the CPU (10_state.md R56, R58, R65). -/

namespace Sys2Proof.Machine

/-- An integer clamped to the signed range of n bits (00_scope.md R14). -/
def clamp (n : Nat) (v : Int) : Int :=
  if v > 2 ^ (n - 1) - 1 then 2 ^ (n - 1) - 1
  else if v < -2 ^ (n - 1) then -2 ^ (n - 1)
  else v

/-- `trunc_n(satn(v))`. -/
def satValue (n : Nat) (v : Int) : BitVec n :=
  BitVec.ofInt n (clamp n v)

/-- `sat`: the clamp changed the value. -/
def saturates (n : Nat) (v : Int) : Bool :=
  clamp n v != v

/-- `if sat then SetSat(d)`. -/
def satIf (s : State) (c : Bool) (d : Nat) : State :=
  if c then s.requestSat d else s

/-- A 32-bit saturated result with zero delay slots: SAT is requested one cycle later (40_arith.md R301). -/
def putSat32 (s : State) (side : Side) (field : BitVec 5) (v : Int) : State :=
  satIf (s.putReg side field (satValue 32 v)) (saturates 32 v) 1

/-- A 40-bit saturated result with zero delay slots. -/
def putSat40 (s : State) (side : Side) (field : BitVec 5) (v : Int) : State :=
  satIf (s.putLong side field (satValue 40 v)) (saturates 40 v) 1

/-- A 32-bit saturated result with one delay slot: SAT is requested two cycles later (42_multiply.md R519). -/
def putSatLate (s : State) (side : Side) (field : BitVec 5) (v : Int) : State :=
  satIf (s.putLate side field (satValue 32 v) 1) (saturates 32 v) 2

end Sys2Proof.Machine
end

