-- ==== Sys2Proof/Machine/Operands.lean ====
section
/-! DEFINITION. The operand forms: registers over the cross path, constants, shift amounts, field positions, and the
addresses of loads and stores. -/

namespace Sys2Proof.Machine

/-! ## Operands of the unit formats (30_encoding.md R221, R223, R224; 40_arith.md R300) -/

/-- src1 as a register of the unit's side. -/
def src1 (s : State) (o : Ops3) : Word := s.reg o.side o.src1

/-- src1 over the cross path when x is set. -/
def xsrc1 (s : State) (o : Ops3) : Word := s.reg (o.side.cross o.x) o.src1

/-- src2 as a register of the unit's side. -/
def src2 (s : State) (o : Ops3) : Word := s.reg o.side o.src2

/-- src2 over the cross path when x is set. -/
def xsrc2 (s : State) (o : Ops3) : Word := s.reg (o.side.cross o.x) o.src2

/-- src2 as a 40-bit pair. -/
def long2 (s : State) (o : Ops3) : Long := s.long o.side o.src2

/-- src1 of the .D format as a register. -/
def src1D (s : State) (o : OpsD) : Word := s.reg o.side o.src1

/-- src2 of the .D format. -/
def src2D (s : State) (o : OpsD) : Word := s.reg o.side o.src2

/-- A five-bit field as a signed constant of n bits. -/
def scst5 (n : Nat) (f : BitVec 5) : BitVec n := f.signExtend n

/-- A five-bit field as an unsigned constant of n bits. -/
def ucst5 (n : Nat) (f : BitVec 5) : BitVec n := f.setWidth n

/-- The ucst4 constant of CMPGTU and CMPLTU: the low four bits of the field (41_logic_shift_bitfield.md R428). -/
def ucst4 (n : Nat) (f : BitVec 5) : BitVec n := (f.extractLsb' 0 4).setWidth n

/-- Bit 17 of the word, which the ucst4 forms require to be 0 (41_logic_shift_bitfield.md R428, D33). -/
def ucst4Bad (f : BitVec 5) : Bool := f.getLsbD 4

/-- The shift amount in a register: the six low bits, at most 40 (41_logic_shift_bitfield.md R469). -/
def shiftAmount (v : Word) : Nat := Nat.min (v.extractLsb' 0 6).toNat 40

/-- csta of a register form (41_logic_shift_bitfield.md R449). -/
def cstaOf (v : Word) : BitVec 5 := v.extractLsb' 5 5

/-- cstb of a register form (41_logic_shift_bitfield.md R449). -/
def cstbOf (v : Word) : BitVec 5 := v.extractLsb' 0 5

/-- The 22 MSBs of a field register are not all zero (41_logic_shift_bitfield.md R449, D31). -/
def fieldRegBad (v : Word) : Bool := v.extractLsb' 10 22 != 0

/-- The signed 16-bit lower half (00_scope.md R12, slsb16). -/
def slsb16 (v : Word) : Int := (v.extractLsb' 0 16).toInt

/-- The unsigned 16-bit lower half (ulsb16). -/
def ulsb16 (v : Word) : Int := (v.extractLsb' 0 16).toNat

/-- The signed 16-bit upper half (smsb16). -/
def smsb16 (v : Word) : Int := (v.extractLsb' 16 16).toInt

/-- The unsigned 16-bit upper half (umsb16). -/
def umsb16 (v : Word) : Int := (v.extractLsb' 16 16).toNat

/-! ## Address arithmetic (20_memory.md R165 to R169) -/

/-- `AddrMode(side, r)`: the AMR mode field of A4 to A7 and B4 to B7, linear for every other register (R166). -/
def circularMode (amr : Word) (side : Side) (r : BitVec 4) : BitVec 2 :=
  match side, r.toNat with
  | .a, 4 => amr.extractLsb' 0 2
  | .a, 5 => amr.extractLsb' 2 2
  | .a, 6 => amr.extractLsb' 4 2
  | .a, 7 => amr.extractLsb' 6 2
  | .b, 4 => amr.extractLsb' 8 2
  | .b, 5 => amr.extractLsb' 10 2
  | .b, 6 => amr.extractLsb' 12 2
  | .b, 7 => amr.extractLsb' 14 2
  | _, _ => 0

/-- The result of an address calculation in a block of 2^(n+1) bytes: only bits n to 0 change (R168); n = 31 is linear. -/
def circular (n : BitVec 5) (base lin : Word) : Word :=
  if n = 31 then lin
  else (base &&& ~~~((2#32 <<< n.toNat) - 1)) ||| (lin &&& ((2#32 <<< n.toNat) - 1))

/-- `AddrCalc`: the base plus or minus a scaled offset, in the mode of the base register (R165). -/
def addrCalc (s : State) (side : Side) (field : BitVec 5) (off : Word) (add : Bool) : Except Stop Word :=
  let base := s.reg side field
  let lin := if add then base + off else base - off
  match (circularMode s.amr side (field.setWidth 4)).toNat with
  | 0 => .ok lin
  | 1 => .ok (circular (s.amr.extractLsb' 16 5) base lin)
  | 2 => .ok (circular (s.amr.extractLsb' 21 5) base lin)
  | _ => .error (.fault .reservedAddressingMode)

/-! ## Addresses of loads and stores (43_load_store.md R553, R570) -/

/-- The scaled offset: a register or a five-bit constant, shifted left by k (R553). -/
def memOffset (s : State) (o : OpsMem) (w : Width) : Word :=
  (if o.mode.usesReg then s.reg o.unit o.offset else ucst5 32 o.offset) <<< w.scale

/-- The base after the address calculation. -/
def newBase (s : State) (o : OpsMem) (w : Width) : Except Stop Word :=
  addrCalc s o.unit o.base (memOffset s o w) o.mode.adds

/-- The address used, given the calculated one (R553). -/
def usedAddress (s : State) (o : OpsMem) (new : Word) : Word :=
  if o.mode.isPost then s.reg o.unit o.base else new

/-- The base register written with zero delay slots where the mode says so (R553, R554). -/
def updateBase (s : State) (o : OpsMem) (new : Word) : State :=
  if o.mode.modifies then s.putReg o.unit o.base new else s

/-- `EA15`: B14 or B15 plus the scaled offset, always linear (R570). -/
def address15 (s : State) (o : OpsMem15) (w : Width) : Word :=
  s.reg .b o.baseReg + (o.offset.setWidth 32 <<< w.scale)

/-! ## Results

Each writes its destination when the condition holds and does nothing else (30_encoding.md R213). -/

/-- A 32-bit result of a unit format. -/
def set32 (s : State) (o : Ops3) (v : Word) : Out :=
  s.onCond o.cond (.next (s.putReg o.side o.dst v))

/-- A 40-bit result of a unit format. -/
def set40 (s : State) (o : Ops3) (v : Long) : Out :=
  s.onCond o.cond (.next (s.putLong o.side o.dst v))

/-- A 32-bit result that the spec leaves open: a free value (93_implementation_defined.md; log 10). -/
def setFree (s : State) (o : Ops3) : Out :=
  s.onCond o.cond (.next (s.drawn.putReg o.side o.dst s.freeWord))

/-- A 32-bit result of the .D format. -/
def setD (s : State) (o : OpsD) (v : Word) : Out :=
  s.onCond o.cond (.next (s.putReg o.side o.dst v))

/-- A 32-bit result of a 16-bit constant form. -/
def setK (s : State) (o : OpsK) (v : Word) : Out :=
  s.onCond o.cond (.next (s.putReg o.side o.dst v))

/-- A compare result: 0000 0001h or 0000 0000h (41_logic_shift_bitfield.md R419). -/
def setTruth (s : State) (o : Ops3) (c : Bool) : Out :=
  set32 s o (if c then 1 else 0)

end Sys2Proof.Machine
end

