-- ==== Sys2Proof/Machine/Arith.lean ====
section
/-! DEFINITION. The arithmetic instructions (40_arith.md). -/

namespace Sys2Proof.Machine

/-! ## Values -/

/-- Absolute value of n bits, the most negative value clamped (R302). -/
def absValue {n : Nat} (v : BitVec n) : BitVec n :=
  BitVec.ofInt n (if 0 ≤ v.toInt then v.toInt
    else if v.toInt = -2 ^ (n - 1) then 2 ^ (n - 1) - 1
    else -v.toInt)

/-- Halves added apart (R340). -/
def add2Value (a b : Word) : Word :=
  (a.extractLsb' 16 16 + b.extractLsb' 16 16) ++ (a.extractLsb' 0 16 + b.extractLsb' 0 16)

/-- Halves subtracted apart (R390). -/
def sub2Value (a b : Word) : Word :=
  (a.extractLsb' 16 16 - b.extractLsb' 16 16) ++ (a.extractLsb' 0 16 - b.extractLsb' 0 16)

/-- One step of a division, the comparison unsigned (R375, D36; log 17). -/
def subcValue (a b : Word) : Word :=
  if b.toNat ≤ a.toNat then ((a - b) <<< 1) + 1 else a <<< 1

/-! ## ADD, ADDU on .L -/

/-- ADD .L, sint + xsint (R305). -/
def execAddL (o : Ops3) (s : State) : Out := set32 s o (src1 s o + xsrc2 s o)

/-- ADD .L, sint + xsint to slong (R305). -/
def execAddLToLong (o : Ops3) (s : State) : Out :=
  set40 s o ((src1 s o).signExtend 40 + (xsrc2 s o).signExtend 40)

/-- ADD .L, xsint + slong (R305). -/
def execAddLLong (o : Ops3) (s : State) : Out := set40 s o ((xsrc1 s o).signExtend 40 + long2 s o)

/-- ADD .L, scst5 + xsint (R305). -/
def execAddLCst (o : Ops3) (s : State) : Out := set32 s o (scst5 32 o.src1 + xsrc2 s o)

/-- ADD .L, scst5 + slong (R305). -/
def execAddLCstLong (o : Ops3) (s : State) : Out := set40 s o (scst5 40 o.src1 + long2 s o)

/-- ADDU, uint + xuint to ulong (R335). -/
def execAddu (o : Ops3) (s : State) : Out :=
  set40 s o ((src1 s o).setWidth 40 + (xsrc2 s o).setWidth 40)

/-- ADDU, xuint + ulong (R335). -/
def execAdduLong (o : Ops3) (s : State) : Out := set40 s o ((xsrc1 s o).setWidth 40 + long2 s o)

/-! ## SUB, SUBU, SUBC on .L -/

/-- SUB .L, sint - xsint (R360). -/
def execSubL (o : Ops3) (s : State) : Out := set32 s o (src1 s o - xsrc2 s o)

/-- SUB .L, xsint - sint (R360). -/
def execSubLX (o : Ops3) (s : State) : Out := set32 s o (xsrc1 s o - src2 s o)

/-- SUB .L, sint - xsint to slong (R360). -/
def execSubLToLong (o : Ops3) (s : State) : Out :=
  set40 s o ((src1 s o).signExtend 40 - (xsrc2 s o).signExtend 40)

/-- SUB .L, xsint - sint to slong (R360). -/
def execSubLXToLong (o : Ops3) (s : State) : Out :=
  set40 s o ((xsrc1 s o).signExtend 40 - (src2 s o).signExtend 40)

/-- SUB .L, scst5 - xsint (R360). -/
def execSubLCst (o : Ops3) (s : State) : Out := set32 s o (scst5 32 o.src1 - xsrc2 s o)

/-- SUB .L, scst5 - slong (R360). -/
def execSubLCstLong (o : Ops3) (s : State) : Out := set40 s o (scst5 40 o.src1 - long2 s o)

/-- SUBU, uint - xuint to ulong (R380). -/
def execSubu (o : Ops3) (s : State) : Out :=
  set40 s o ((src1 s o).setWidth 40 - (xsrc2 s o).setWidth 40)

/-- SUBU, xuint - uint to ulong (R380). -/
def execSubuX (o : Ops3) (s : State) : Out :=
  set40 s o ((xsrc1 s o).setWidth 40 - (src2 s o).setWidth 40)

/-- SUBC (R375). -/
def execSubc (o : Ops3) (s : State) : Out := set32 s o (subcValue (src1 s o) (xsrc2 s o))

/-! ## SADD, SSUB, SAT, ABS -/

/-- SADD, sint + xsint (R345). -/
def execSadd (o : Ops3) (s : State) : Out :=
  s.onCond o.cond (.next (putSat32 s o.side o.dst ((src1 s o).toInt + (xsrc2 s o).toInt)))

/-- SADD, xsint + slong (R345). -/
def execSaddLong (o : Ops3) (s : State) : Out :=
  s.onCond o.cond (.next (putSat40 s o.side o.dst ((xsrc1 s o).toInt + (long2 s o).toInt)))

/-- SADD, scst5 + xsint (R345). -/
def execSaddCst (o : Ops3) (s : State) : Out :=
  s.onCond o.cond (.next (putSat32 s o.side o.dst (o.src1.toInt + (xsrc2 s o).toInt)))

/-- SADD, scst5 + slong (R345). -/
def execSaddCstLong (o : Ops3) (s : State) : Out :=
  s.onCond o.cond (.next (putSat40 s o.side o.dst (o.src1.toInt + (long2 s o).toInt)))

/-- SSUB, sint - xsint (R355). -/
def execSsub (o : Ops3) (s : State) : Out :=
  s.onCond o.cond (.next (putSat32 s o.side o.dst ((src1 s o).toInt - (xsrc2 s o).toInt)))

/-- SSUB, xsint - sint (R355). -/
def execSsubX (o : Ops3) (s : State) : Out :=
  s.onCond o.cond (.next (putSat32 s o.side o.dst ((xsrc1 s o).toInt - (src2 s o).toInt)))

/-- SSUB, scst5 - xsint (R355). -/
def execSsubCst (o : Ops3) (s : State) : Out :=
  s.onCond o.cond (.next (putSat32 s o.side o.dst (o.src1.toInt - (xsrc2 s o).toInt)))

/-- SSUB, scst5 - slong (R355). -/
def execSsubCstLong (o : Ops3) (s : State) : Out :=
  s.onCond o.cond (.next (putSat40 s o.side o.dst (o.src1.toInt - (long2 s o).toInt)))

/-- SAT, a pair to 32 bits (R350). -/
def execSat (o : Ops3) (s : State) : Out :=
  s.onCond o.cond (.next (putSat32 s o.side o.dst (long2 s o).toInt))

/-- ABS, xsint; SAT is not set (R302; log 46). -/
def execAbs (o : Ops3) (s : State) : Out := set32 s o (absValue (xsrc2 s o))

/-- ABS, slong; SAT is not set (R302; log 46). -/
def execAbsLong (o : Ops3) (s : State) : Out := set40 s o (absValue (long2 s o))

/-! ## ADD, SUB, ADD2, SUB2, ADDK on .S -/

/-- ADD .S, sint + xsint (R306). -/
def execAddS (o : Ops3) (s : State) : Out := set32 s o (src1 s o + xsrc2 s o)

/-- ADD .S, scst5 + xsint (R306). -/
def execAddSCst (o : Ops3) (s : State) : Out := set32 s o (scst5 32 o.src1 + xsrc2 s o)

/-- SUB .S, sint - xsint (R365). -/
def execSubS (o : Ops3) (s : State) : Out := set32 s o (src1 s o - xsrc2 s o)

/-- SUB .S, scst5 - xsint (R365). -/
def execSubSCst (o : Ops3) (s : State) : Out := set32 s o (scst5 32 o.src1 - xsrc2 s o)

/-- ADD2 (R340). -/
def execAdd2 (o : Ops3) (s : State) : Out := set32 s o (add2Value (src1 s o) (xsrc2 s o))

/-- SUB2 (R390). -/
def execSub2 (o : Ops3) (s : State) : Out := set32 s o (sub2Value (src1 s o) (xsrc2 s o))

/-- ADDK: dst plus a signed 16-bit constant (R315). -/
def execAddk (o : OpsK) (s : State) : Out := setK s o (s.reg o.side o.dst + o.cst.signExtend 32)

/-! ## ADD, SUB on .D: always linear; src2 is the minuend -/

/-- ADD .D, src2 + src1 (R310). -/
def execAddD (o : OpsD) (s : State) : Out := setD s o (src2D s o + src1D s o)

/-- ADD .D, src2 + ucst5 (R310). -/
def execAddDCst (o : OpsD) (s : State) : Out := setD s o (src2D s o + ucst5 32 o.src1)

/-- SUB .D, src2 - src1 (R370). -/
def execSubD (o : OpsD) (s : State) : Out := setD s o (src2D s o - src1D s o)

/-- SUB .D, src2 - ucst5 (R370). -/
def execSubDCst (o : OpsD) (s : State) : Out := setD s o (src2D s o - ucst5 32 o.src1)

/-! ## ADDAB to SUBAW: address arithmetic in the mode of src2 (R319) -/

/-- src2 plus or minus an offset scaled by the width, linear or circular by AMR (R319). -/
def addressArith (s : State) (o : OpsD) (w : Width) (off : Word) (add : Bool) : Out :=
  s.onCond o.cond (outcome do
    let v ← addrCalc s o.side o.src2 (off <<< w.scale) add
    .ok (s.putReg o.side o.dst v))

/-- ADDAB, register (R320). -/
def execAddab (o : OpsD) (s : State) : Out := addressArith s o .byte (src1D s o) true

/-- ADDAB, ucst5 (R320). -/
def execAddabCst (o : OpsD) (s : State) : Out := addressArith s o .byte (ucst5 32 o.src1) true

/-- ADDAH, register (R321). -/
def execAddah (o : OpsD) (s : State) : Out := addressArith s o .half (src1D s o) true

/-- ADDAH, ucst5 (R321). -/
def execAddahCst (o : OpsD) (s : State) : Out := addressArith s o .half (ucst5 32 o.src1) true

/-- ADDAW, register (R322). -/
def execAddaw (o : OpsD) (s : State) : Out := addressArith s o .word (src1D s o) true

/-- ADDAW, ucst5 (R322). -/
def execAddawCst (o : OpsD) (s : State) : Out := addressArith s o .word (ucst5 32 o.src1) true

/-- SUBAB, register (R323). -/
def execSubab (o : OpsD) (s : State) : Out := addressArith s o .byte (src1D s o) false

/-- SUBAB, ucst5 (R323). -/
def execSubabCst (o : OpsD) (s : State) : Out := addressArith s o .byte (ucst5 32 o.src1) false

/-- SUBAH, register (R324). -/
def execSubah (o : OpsD) (s : State) : Out := addressArith s o .half (src1D s o) false

/-- SUBAH, ucst5 (R324). -/
def execSubahCst (o : OpsD) (s : State) : Out := addressArith s o .half (ucst5 32 o.src1) false

/-- SUBAW, register (R325). -/
def execSubaw (o : OpsD) (s : State) : Out := addressArith s o .word (src1D s o) false

/-- SUBAW, ucst5 (R325). -/
def execSubawCst (o : OpsD) (s : State) : Out := addressArith s o .word (ucst5 32 o.src1) false

end Sys2Proof.Machine
end

