-- ==== Sys2Proof/Machine/Branch.lean ====
section
/-! DEFINITION. The branch instructions (44_branch.md).  Each marks that a branch was in E1 whatever its condition
(R604); a taken one adds its target with five delay slots (R601). -/

namespace Sys2Proof.Machine

/-- The target of B with a displacement: the fetch packet's address plus four times the constant (R605). -/
def displacementTarget (s : State) (o : OpsBr) : Word :=
  s.pce1 + (o.cst.signExtend 32 <<< 2)

/-- A branch: `taken` is what it does when its condition holds. -/
def branch (s : State) (c : Cond) (taken : Except Stop State) : Out :=
  if s.holds c then
    outcome do
      let t ← taken
      .ok t.noteBranch
  else .next s.noteBranch

/-- B label (R605). -/
def execBDisp (o : OpsBr) (s : State) : Out :=
  branch s o.cond (s.takeBranch (displacementTarget s o))

/-- B register (R610). -/
def execBReg (o : Ops3) (s : State) : Out :=
  branch s o.cond (s.takeBranch (xsrc2 s o))

/-- B IRP: also GIE <- PGIE (R615). -/
def execBIrp (o : OpsRet) (s : State) : Out :=
  branch s o.cond s.returnFromInterrupt

/-- B NRP: also NMIE <- 1 (R620). -/
def execBNrp (o : OpsRet) (s : State) : Out :=
  branch s o.cond s.returnFromNmi

end Sys2Proof.Machine
end

