-- ==== Sys2Proof/Machine/LoadStore.lean ====
section
/-! DEFINITION. The load and store instructions (43_load_store.md). -/

namespace Sys2Proof.Machine

/-- A load with base and offset: the base written with zero delay slots, the extended value with four (R553, R554). -/
def load (s : State) (o : OpsMem) (w : Width) (extend : Word → Word) : Out :=
  s.onCond o.cond (outcome do
    let new ← newBase s o w
    let v ← s.memRead w (usedAddress s o new)
    .ok ((updateBase s o new).putLate o.side o.data (extend v) 4))

/-- A store with base and offset; the data register is read before the base is written (R553, R554, R563). -/
def store (s : State) (o : OpsMem) (w : Width) : Out :=
  s.onCond o.cond (outcome do
    let new ← newBase s o w
    let t ← s.memWrite w (usedAddress s o new) (s.reg o.side o.data)
    .ok (updateBase t o new))

/-- A load with a 15-bit offset (R570). -/
def load15 (s : State) (o : OpsMem15) (w : Width) (extend : Word → Word) : Out :=
  s.onCond o.cond (outcome do
    let v ← s.memRead w (address15 s o w)
    .ok (s.putLate o.side o.data (extend v) 4))

/-- A store with a 15-bit offset (R570). -/
def store15 (s : State) (o : OpsMem15) (w : Width) : Out :=
  s.onCond o.cond (outcome (s.memWrite w (address15 s o w) (s.reg o.side o.data)))

/-- The low 8 bits, sign-extended (R555). -/
def sext8 (v : Word) : Word := (v.setWidth 8).signExtend 32

/-- The low 16 bits, sign-extended (R557). -/
def sext16 (v : Word) : Word := (v.setWidth 16).signExtend 32

/-! ## Base and offset -/

/-- LDHU: half, zero-extended (R558). -/
def execLdhu (o : OpsMem) (s : State) : Out := load s o .half id

/-- LDBU: byte, zero-extended (R556). -/
def execLdbu (o : OpsMem) (s : State) : Out := load s o .byte id

/-- LDB: byte, sign-extended (R555). -/
def execLdb (o : OpsMem) (s : State) : Out := load s o .byte sext8

/-- STB: byte (R560). -/
def execStb (o : OpsMem) (s : State) : Out := store s o .byte

/-- LDH: half, sign-extended (R557). -/
def execLdh (o : OpsMem) (s : State) : Out := load s o .half sext16

/-- STH: half (R561). -/
def execSth (o : OpsMem) (s : State) : Out := store s o .half

/-- LDW: word (R559). -/
def execLdw (o : OpsMem) (s : State) : Out := load s o .word id

/-- STW: word (R562). -/
def execStw (o : OpsMem) (s : State) : Out := store s o .word

/-! ## 15-bit offset -/

/-- LDHU, 15-bit offset: half, zero-extended (R574). -/
def execLdhu15 (o : OpsMem15) (s : State) : Out := load15 s o .half id

/-- LDBU, 15-bit offset: byte, zero-extended (R572). -/
def execLdbu15 (o : OpsMem15) (s : State) : Out := load15 s o .byte id

/-- LDB, 15-bit offset: byte, sign-extended (R571). -/
def execLdb15 (o : OpsMem15) (s : State) : Out := load15 s o .byte sext8

/-- STB, 15-bit offset: byte (R576). -/
def execStb15 (o : OpsMem15) (s : State) : Out := store15 s o .byte

/-- LDH, 15-bit offset: half, sign-extended (R573). -/
def execLdh15 (o : OpsMem15) (s : State) : Out := load15 s o .half sext16

/-- STH, 15-bit offset: half (R577). -/
def execSth15 (o : OpsMem15) (s : State) : Out := store15 s o .half

/-- LDW, 15-bit offset: word (R575). -/
def execLdw15 (o : OpsMem15) (s : State) : Out := load15 s o .word id

/-- STW, 15-bit offset: word (R578). -/
def execStw15 (o : OpsMem15) (s : State) : Out := store15 s o .word

end Sys2Proof.Machine
end

