-- ==== Sys2Proof/Machine/Logic.lean ====
section
/-! DEFINITION. The logical, compare, bit-count, bit-field and shift instructions (41_logic_shift_bitfield.md). -/

namespace Sys2Proof.Machine

/-! ## AND, OR, XOR -/

/-- AND .L (R405). -/
def execAndL (o : Ops3) (s : State) : Out := set32 s o (src1 s o &&& xsrc2 s o)

/-- AND .L, scst5 (R405). -/
def execAndLCst (o : Ops3) (s : State) : Out := set32 s o (scst5 32 o.src1 &&& xsrc2 s o)

/-- OR .L (R408). -/
def execOrL (o : Ops3) (s : State) : Out := set32 s o (src1 s o ||| xsrc2 s o)

/-- OR .L, scst5 (R408). -/
def execOrLCst (o : Ops3) (s : State) : Out := set32 s o (scst5 32 o.src1 ||| xsrc2 s o)

/-- XOR .L (R411). -/
def execXorL (o : Ops3) (s : State) : Out := set32 s o (src1 s o ^^^ xsrc2 s o)

/-- XOR .L, scst5 (R411). -/
def execXorLCst (o : Ops3) (s : State) : Out := set32 s o (scst5 32 o.src1 ^^^ xsrc2 s o)

/-- AND .S (R405). -/
def execAndS (o : Ops3) (s : State) : Out := set32 s o (src1 s o &&& xsrc2 s o)

/-- AND .S, scst5 (R405). -/
def execAndSCst (o : Ops3) (s : State) : Out := set32 s o (scst5 32 o.src1 &&& xsrc2 s o)

/-- OR .S (R408). -/
def execOrS (o : Ops3) (s : State) : Out := set32 s o (src1 s o ||| xsrc2 s o)

/-- OR .S, scst5 (R408). -/
def execOrSCst (o : Ops3) (s : State) : Out := set32 s o (scst5 32 o.src1 ||| xsrc2 s o)

/-- XOR .S (R411). -/
def execXorS (o : Ops3) (s : State) : Out := set32 s o (src1 s o ^^^ xsrc2 s o)

/-- XOR .S, scst5 (R411). -/
def execXorSCst (o : Ops3) (s : State) : Out := set32 s o (scst5 32 o.src1 ^^^ xsrc2 s o)

/-! ## Compares (R419) -/

/-- CMPEQ, sint with xsint (R420). -/
def execCmpeq (o : Ops3) (s : State) : Out := setTruth s o (src1 s o == xsrc2 s o)

/-- CMPEQ, scst5 with xsint (R420). -/
def execCmpeqCst (o : Ops3) (s : State) : Out := setTruth s o (scst5 32 o.src1 == xsrc2 s o)

/-- CMPEQ, xsint with slong (R420). -/
def execCmpeqLong (o : Ops3) (s : State) : Out := setTruth s o ((xsrc1 s o).signExtend 40 == long2 s o)

/-- CMPEQ, scst5 with slong (R420). -/
def execCmpeqCstLong (o : Ops3) (s : State) : Out := setTruth s o (scst5 40 o.src1 == long2 s o)

/-- CMPGT, sint with xsint (R424). -/
def execCmpgt (o : Ops3) (s : State) : Out := setTruth s o ((xsrc2 s o).slt (src1 s o))

/-- CMPGT, scst5 with xsint (R424). -/
def execCmpgtCst (o : Ops3) (s : State) : Out := setTruth s o ((xsrc2 s o).slt (scst5 32 o.src1))

/-- CMPGT, xsint with slong (R424). -/
def execCmpgtLong (o : Ops3) (s : State) : Out := setTruth s o ((long2 s o).slt ((xsrc1 s o).signExtend 40))

/-- CMPGT, scst5 with slong (R424). -/
def execCmpgtCstLong (o : Ops3) (s : State) : Out := setTruth s o ((long2 s o).slt (scst5 40 o.src1))

/-- CMPGTU, uint with xuint (R428). -/
def execCmpgtu (o : Ops3) (s : State) : Out := setTruth s o ((xsrc2 s o).ult (src1 s o))

/-- CMPGTU, ucst4 with xuint; a free value when bit 17 of the word is 1 (R428, D33). -/
def execCmpgtuCst (o : Ops3) (s : State) : Out :=
  if ucst4Bad o.src1 then setFree s o else setTruth s o ((xsrc2 s o).ult (ucst4 32 o.src1))

/-- CMPGTU, xuint with ulong (R428). -/
def execCmpgtuLong (o : Ops3) (s : State) : Out := setTruth s o ((long2 s o).ult ((xsrc1 s o).setWidth 40))

/-- CMPGTU, ucst4 with ulong; a free value when bit 17 of the word is 1 (R428, D33). -/
def execCmpgtuCstLong (o : Ops3) (s : State) : Out :=
  if ucst4Bad o.src1 then setFree s o else setTruth s o ((long2 s o).ult (ucst4 40 o.src1))

/-- CMPLT, sint with xsint (R432). -/
def execCmplt (o : Ops3) (s : State) : Out := setTruth s o ((src1 s o).slt (xsrc2 s o))

/-- CMPLT, scst5 with xsint (R432). -/
def execCmpltCst (o : Ops3) (s : State) : Out := setTruth s o ((scst5 32 o.src1).slt (xsrc2 s o))

/-- CMPLT, xsint with slong (R432). -/
def execCmpltLong (o : Ops3) (s : State) : Out := setTruth s o (((xsrc1 s o).signExtend 40).slt (long2 s o))

/-- CMPLT, scst5 with slong (R432). -/
def execCmpltCstLong (o : Ops3) (s : State) : Out := setTruth s o ((scst5 40 o.src1).slt (long2 s o))

/-- CMPLTU, uint with xuint (R436). -/
def execCmpltu (o : Ops3) (s : State) : Out := setTruth s o ((src1 s o).ult (xsrc2 s o))

/-- CMPLTU, ucst4 with xuint; a free value when bit 17 of the word is 1 (R436, D33). -/
def execCmpltuCst (o : Ops3) (s : State) : Out :=
  if ucst4Bad o.src1 then setFree s o else setTruth s o ((ucst4 32 o.src1).ult (xsrc2 s o))

/-- CMPLTU, xuint with ulong (R436). -/
def execCmpltuLong (o : Ops3) (s : State) : Out := setTruth s o (((xsrc1 s o).setWidth 40).ult (long2 s o))

/-- CMPLTU, ucst4 with ulong; a free value when bit 17 of the word is 1 (R436, D33). -/
def execCmpltuCstLong (o : Ops3) (s : State) : Out :=
  if ucst4Bad o.src1 then setFree s o else setTruth s o ((ucst4 40 o.src1).ult (long2 s o))

/-! ## LMBD, NORM -/

/-- 31 - k for the largest k below n with bit k of v equal to b; 32 if there is none (R440). -/
def leftmostFrom (v : Word) (b : Bool) : Nat → Nat
  | 0 => 32
  | k + 1 => if v.getLsbD k = b then 31 - k else leftmostFrom v b k

/-- How many bits from bit n - 1 downward equal b before the first that differs (R445). -/
def equalRun {w : Nat} (v : BitVec w) (b : Bool) : Nat → Nat
  | 0 => 0
  | k + 1 => if v.getLsbD k = b then equalRun v b k + 1 else 0

/-- The number of redundant sign bits (R445). -/
def normValue {w : Nat} (v : BitVec w) : Nat :=
  equalRun v v.msb (w - 1)

/-- LMBD, register: bit 0 of src1 is what is searched for (R440). -/
def execLmbd (o : Ops3) (s : State) : Out :=
  set32 s o (BitVec.ofNat 32 (leftmostFrom (xsrc2 s o) ((src1 s o).getLsbD 0) 32))

/-- LMBD, constant: bit 13 of the word is what is searched for (R440). -/
def execLmbdCst (o : Ops3) (s : State) : Out :=
  set32 s o (BitVec.ofNat 32 (leftmostFrom (xsrc2 s o) (o.src1.getLsbD 0) 32))

/-- NORM, xsint (R445). -/
def execNorm (o : Ops3) (s : State) : Out := set32 s o (BitVec.ofNat 32 (normValue (xsrc2 s o)))

/-- NORM, slong (R445). -/
def execNormLong (o : Ops3) (s : State) : Out := set32 s o (BitVec.ofNat 32 (normValue (long2 s o)))

/-! ## CLR, SET, EXT, EXTU (R449) -/

/-- The field of bits csta to cstb, for csta at most cstb (R450, R455). -/
def fieldMask (csta cstb : BitVec 5) : Word :=
  (BitVec.allOnes 32 <<< csta.toNat) &&& (BitVec.allOnes 32 >>> (31 - cstb.toNat))

/-- The field cleared (R450). -/
def clrValue (v : Word) (csta cstb : BitVec 5) : Word := v &&& ~~~(fieldMask csta cstb)

/-- The field set (R455). -/
def setValue (v : Word) (csta cstb : BitVec 5) : Word := v ||| fieldMask csta cstb

/-- Shift left, then arithmetic shift right (R460). -/
def extValue (v : Word) (csta cstb : BitVec 5) : Word := (v <<< csta.toNat).sshiftRight cstb.toNat

/-- Shift left, then logical shift right (R465). -/
def extuValue (v : Word) (csta cstb : BitVec 5) : Word := (v <<< csta.toNat) >>> cstb.toNat

/-- A result of a constant field operation. -/
def setField (s : State) (o : OpsField) (v : Word) : Out :=
  s.onCond o.cond (.next (s.putReg o.side o.dst v))

/-- A free result of a constant field operation (log 10). -/
def setFieldFree (s : State) (o : OpsField) : Out :=
  s.onCond o.cond (.next (s.drawn.putReg o.side o.dst s.freeWord))

/-- SET, register form; a free value when a high bit of src1 is set (D31) or csta > cstb (D37) (R449, R455). -/
def execSetReg (o : Ops3) (s : State) : Out :=
  if fieldRegBad (src1 s o) || (cstbOf (src1 s o)).ult (cstaOf (src1 s o)) then setFree s o
  else set32 s o (setValue (xsrc2 s o) (cstaOf (src1 s o)) (cstbOf (src1 s o)))

/-- CLR, register form; a free value when a high bit of src1 is set (D31) or csta > cstb (D37) (R449, R450). -/
def execClrReg (o : Ops3) (s : State) : Out :=
  if fieldRegBad (src1 s o) || (cstbOf (src1 s o)).ult (cstaOf (src1 s o)) then setFree s o
  else set32 s o (clrValue (xsrc2 s o) (cstaOf (src1 s o)) (cstbOf (src1 s o)))

/-- EXT, register form; a free value when a high bit of src1 is set (R449, D31, R460). -/
def execExtReg (o : Ops3) (s : State) : Out :=
  if fieldRegBad (src1 s o) then setFree s o
  else set32 s o (extValue (xsrc2 s o) (cstaOf (src1 s o)) (cstbOf (src1 s o)))

/-- EXTU, register form; a free value when a high bit of src1 is set (R449, D31, R465). -/
def execExtuReg (o : Ops3) (s : State) : Out :=
  if fieldRegBad (src1 s o) then setFree s o
  else set32 s o (extuValue (xsrc2 s o) (cstaOf (src1 s o)) (cstbOf (src1 s o)))

/-- EXTU, constant form (R465). -/
def execExtu (o : OpsField) (s : State) : Out := setField s o (extuValue (s.reg o.side o.src2) o.csta o.cstb)

/-- EXT, constant form (R460). -/
def execExt (o : OpsField) (s : State) : Out := setField s o (extValue (s.reg o.side o.src2) o.csta o.cstb)

/-- SET, constant form; a free value when csta > cstb (R455, D37). -/
def execSet (o : OpsField) (s : State) : Out :=
  if o.cstb.ult o.csta then setFieldFree s o
  else setField s o (setValue (s.reg o.side o.src2) o.csta o.cstb)

/-- CLR, constant form; a free value when csta > cstb (R450, D37). -/
def execClr (o : OpsField) (s : State) : Out :=
  if o.cstb.ult o.csta then setFieldFree s o
  else setField s o (clrValue (s.reg o.side o.src2) o.csta o.cstb)

/-! ## SHL, SHR, SHRU, SSHL (R469) -/

/-- SHL, xsint by a register (R470). -/
def execShl (o : Ops3) (s : State) : Out := set32 s o (xsrc2 s o <<< shiftAmount (src1 s o))

/-- SHL, slong by a register (R470). -/
def execShlLong (o : Ops3) (s : State) : Out := set40 s o (long2 s o <<< shiftAmount (src1 s o))

/-- SHL, xuint to ulong by a register (R470). -/
def execShlToLong (o : Ops3) (s : State) : Out :=
  set40 s o ((xsrc2 s o).setWidth 40 <<< shiftAmount (src1 s o))

/-- SHL, xsint by a constant (R470). -/
def execShlCst (o : Ops3) (s : State) : Out := set32 s o (xsrc2 s o <<< o.src1.toNat)

/-- SHL, slong by a constant (R470). -/
def execShlCstLong (o : Ops3) (s : State) : Out := set40 s o (long2 s o <<< o.src1.toNat)

/-- SHL, xuint to ulong by a constant (R470). -/
def execShlCstToLong (o : Ops3) (s : State) : Out := set40 s o ((xsrc2 s o).setWidth 40 <<< o.src1.toNat)

/-- SHR, xsint by a register (R475). -/
def execShr (o : Ops3) (s : State) : Out := set32 s o ((xsrc2 s o).sshiftRight (shiftAmount (src1 s o)))

/-- SHR, slong by a register (R475). -/
def execShrLong (o : Ops3) (s : State) : Out := set40 s o ((long2 s o).sshiftRight (shiftAmount (src1 s o)))

/-- SHR, xsint by a constant (R475). -/
def execShrCst (o : Ops3) (s : State) : Out := set32 s o ((xsrc2 s o).sshiftRight o.src1.toNat)

/-- SHR, slong by a constant (R475). -/
def execShrCstLong (o : Ops3) (s : State) : Out := set40 s o ((long2 s o).sshiftRight o.src1.toNat)

/-- SHRU, xuint by a register (R480). -/
def execShru (o : Ops3) (s : State) : Out := set32 s o (xsrc2 s o >>> shiftAmount (src1 s o))

/-- SHRU, ulong by a register (R480). -/
def execShruLong (o : Ops3) (s : State) : Out := set40 s o (long2 s o >>> shiftAmount (src1 s o))

/-- SHRU, xuint by a constant (R480). -/
def execShruCst (o : Ops3) (s : State) : Out := set32 s o (xsrc2 s o >>> o.src1.toNat)

/-- SHRU, ulong by a constant (R480). -/
def execShruCstLong (o : Ops3) (s : State) : Out := set40 s o (long2 s o >>> o.src1.toNat)

/-- A shift amount above 31: the result and the SAT request are both free (R485, D32). -/
def sshlFree (s : State) (o : Ops3) : State :=
  satIf (s.drawn.putReg o.side o.dst s.freeWord) s.freeBit 1

/-- SSHL by a register (R485). -/
def execSshl (o : Ops3) (s : State) : Out :=
  s.onCond o.cond (.next
    (if 31 < (src1 s o).toNat then sshlFree s o
     else putSat32 s o.side o.dst ((xsrc2 s o).toInt * 2 ^ (src1 s o).toNat)))

/-- SSHL by a constant (R485). -/
def execSshlCst (o : Ops3) (s : State) : Out :=
  s.onCond o.cond (.next (putSat32 s o.side o.dst ((xsrc2 s o).toInt * 2 ^ o.src1.toNat)))

end Sys2Proof.Machine
end

