-- ==== Sys2Proof/Machine/MoveControl.lean ====
section
/-! DEFINITION. Moves to and from control registers, constant moves, NOP and IDLE (45_move_control.md). -/

namespace Sys2Proof.Machine

/-- MVC from a control register, named by the src2 field, to a register of file B (R630). -/
def execMvcRead (o : Ops3) (s : State) : Out :=
  s.onCond o.cond (outcome do
    let v ← s.readCtrl o.src2
    .ok (s.putReg o.side o.dst v))

/-- MVC from a register to a control register, named by the dst field (R631). -/
def execMvcWrite (o : Ops3) (s : State) : Out :=
  s.onCond o.cond (outcome (s.writeCtrl o.dst (xsrc2 s o)))

/-- MVK (R635). -/
def execMvk (o : OpsK) (s : State) : Out := setK s o (o.cst.signExtend 32)

/-- MVKH: the lower half of dst is kept (R640). -/
def execMvkh (o : OpsK) (s : State) : Out :=
  setK s o ((o.cst.setWidth 32 <<< 16) ||| (s.reg o.side o.dst &&& 0x0000FFFF))

/-- NOP 1 to NOP 8: src further cycles are held (R650, R652). -/
def execNop (src : BitVec 3) (s : State) : Out := .next (s.putHold (.count src.toNat))

/-- NOP 9 (R650, R652). -/
def execNop9 (s : State) : Out := .next (s.putHold (.count 8))

/-- IDLE (R655). -/
def execIdle (s : State) : Out := .next (s.putHold .idle)

end Sys2Proof.Machine
end

