-- ==== Sys2Proof/Machine/Multiply.lean ====
section
/-! DEFINITION. The multiply instructions (42_multiply.md): 16 by 16 bits, one delay slot. -/

namespace Sys2Proof.Machine

/-- `R[s,dst] <-(1) trunc_32(p)` (R500). -/
def setProduct (s : State) (o : Ops3) (p : Int) : Out :=
  s.onCond o.cond (.next (s.putLate o.side o.dst (BitVec.ofInt 32 p) 1))

/-- The saturating multiplies: twice the product, saturated (R519). -/
def setDouble (s : State) (o : Ops3) (p : Int) : Out :=
  s.onCond o.cond (.next (putSatLate s o.side o.dst (2 * p)))

/-! ## The sixteen plain multiplies -/

/-- MPY: signed low half by signed low half (R501). -/
def execMpy (o : Ops3) (s : State) : Out :=
  setProduct s o (slsb16 (src1 s o) * slsb16 (xsrc2 s o))

/-- MPY, scst5 by signed low half (R501). -/
def execMpyCst (o : Ops3) (s : State) : Out :=
  setProduct s o (o.src1.toInt * slsb16 (xsrc2 s o))

/-- MPYU: unsigned low half by unsigned low half (R502). -/
def execMpyu (o : Ops3) (s : State) : Out :=
  setProduct s o (ulsb16 (src1 s o) * ulsb16 (xsrc2 s o))

/-- MPYUS: unsigned low half by signed low half (R503). -/
def execMpyus (o : Ops3) (s : State) : Out :=
  setProduct s o (ulsb16 (src1 s o) * slsb16 (xsrc2 s o))

/-- MPYSU: signed low half by unsigned low half (R504). -/
def execMpysu (o : Ops3) (s : State) : Out :=
  setProduct s o (slsb16 (src1 s o) * ulsb16 (xsrc2 s o))

/-- MPYSU, scst5 by unsigned low half (R504). -/
def execMpysuCst (o : Ops3) (s : State) : Out :=
  setProduct s o (o.src1.toInt * ulsb16 (xsrc2 s o))

/-- MPYH: signed high half by signed high half (R505). -/
def execMpyh (o : Ops3) (s : State) : Out :=
  setProduct s o (smsb16 (src1 s o) * smsb16 (xsrc2 s o))

/-- MPYHU: unsigned high half by unsigned high half (R506). -/
def execMpyhu (o : Ops3) (s : State) : Out :=
  setProduct s o (umsb16 (src1 s o) * umsb16 (xsrc2 s o))

/-- MPYHUS: unsigned high half by signed high half (R507). -/
def execMpyhus (o : Ops3) (s : State) : Out :=
  setProduct s o (umsb16 (src1 s o) * smsb16 (xsrc2 s o))

/-- MPYHSU: signed high half by unsigned high half (R508). -/
def execMpyhsu (o : Ops3) (s : State) : Out :=
  setProduct s o (smsb16 (src1 s o) * umsb16 (xsrc2 s o))

/-- MPYHL: signed high half by signed low half (R509). -/
def execMpyhl (o : Ops3) (s : State) : Out :=
  setProduct s o (smsb16 (src1 s o) * slsb16 (xsrc2 s o))

/-- MPYHLU: unsigned high half by unsigned low half (R510). -/
def execMpyhlu (o : Ops3) (s : State) : Out :=
  setProduct s o (umsb16 (src1 s o) * ulsb16 (xsrc2 s o))

/-- MPYHULS: unsigned high half by signed low half (R511). -/
def execMpyhuls (o : Ops3) (s : State) : Out :=
  setProduct s o (umsb16 (src1 s o) * slsb16 (xsrc2 s o))

/-- MPYHSLU: signed high half by unsigned low half (R512). -/
def execMpyhslu (o : Ops3) (s : State) : Out :=
  setProduct s o (smsb16 (src1 s o) * ulsb16 (xsrc2 s o))

/-- MPYLH: signed low half by signed high half (R513). -/
def execMpylh (o : Ops3) (s : State) : Out :=
  setProduct s o (slsb16 (src1 s o) * smsb16 (xsrc2 s o))

/-- MPYLHU: unsigned low half by unsigned high half (R514). -/
def execMpylhu (o : Ops3) (s : State) : Out :=
  setProduct s o (ulsb16 (src1 s o) * umsb16 (xsrc2 s o))

/-- MPYLUHS: unsigned low half by signed high half (R515). -/
def execMpyluhs (o : Ops3) (s : State) : Out :=
  setProduct s o (ulsb16 (src1 s o) * smsb16 (xsrc2 s o))

/-- MPYLSHU: signed low half by unsigned high half (R516). -/
def execMpylshu (o : Ops3) (s : State) : Out :=
  setProduct s o (slsb16 (src1 s o) * umsb16 (xsrc2 s o))

/-! ## The four saturating multiplies (R519) -/

/-- SMPY: low half by low half (R520). -/
def execSmpy (o : Ops3) (s : State) : Out :=
  setDouble s o (slsb16 (src1 s o) * slsb16 (xsrc2 s o))

/-- SMPYH: high half by high half (R521). -/
def execSmpyh (o : Ops3) (s : State) : Out :=
  setDouble s o (smsb16 (src1 s o) * smsb16 (xsrc2 s o))

/-- SMPYHL: high half by low half (R522). -/
def execSmpyhl (o : Ops3) (s : State) : Out :=
  setDouble s o (smsb16 (src1 s o) * slsb16 (xsrc2 s o))

/-- SMPYLH: low half by high half (R523). -/
def execSmpylh (o : Ops3) (s : State) : Out :=
  setDouble s o (slsb16 (src1 s o) * smsb16 (xsrc2 s o))

end Sys2Proof.Machine
end

