-- ==== Sys2Proof/Machine/Pseudo.lean ====
section
/-! DEFINITION. The pseudo-operations, as the execution lines of the spec give them (46_pseudo_ops.md; log 40).  No word
decodes to one; each does what the machine instruction of `Instr.expand` does. -/

namespace Sys2Proof.Machine

/-- A 32-bit result of MV, NEG or NOT. -/
def set2 (s : State) (o : Ops2) (v : Word) : Out :=
  s.onCond o.cond (.next (s.putReg o.side o.dst v))

/-- A 40-bit result of MV or NEG. -/
def set2Long (s : State) (o : Ops2) (v : Long) : Out :=
  s.onCond o.cond (.next (s.putLong o.side o.dst v))

/-- src2 of MV, NEG or NOT, over the cross path when x is set. -/
def from2 (s : State) (o : Ops2) : Word := s.reg (o.side.cross o.x) o.src2

/-- A 32-bit zero (R675). -/
def setZero (s : State) (o : OpsZ) : Out :=
  s.onCond o.cond (.next (s.putReg o.side o.dst 0))

/-- MV .L: 0 + src2 (R671). -/
def execMvL (o : Ops2) (s : State) : Out := set2 s o (from2 s o)

/-- MV .L, pair (R671). -/
def execMvLLong (o : Ops2) (s : State) : Out := set2Long s o (s.long o.side o.src2)

/-- MV .S (R671). -/
def execMvS (o : Ops2) (s : State) : Out := set2 s o (from2 s o)

/-- MV .D (R671). -/
def execMvD (o : OpsD2) (s : State) : Out :=
  s.onCond o.cond (.next (s.putReg o.side o.dst (s.reg o.side o.src2)))

/-- NEG .L: 0 - src2, wrapping (R673). -/
def execNegL (o : Ops2) (s : State) : Out := set2 s o (-(from2 s o))

/-- NEG .L, pair (R673). -/
def execNegLLong (o : Ops2) (s : State) : Out := set2Long s o (-(s.long o.side o.src2))

/-- NEG .S (R673). -/
def execNegS (o : Ops2) (s : State) : Out := set2 s o (-(from2 s o))

/-- NOT .L (R674). -/
def execNotL (o : Ops2) (s : State) : Out := set2 s o (~~~(from2 s o))

/-- NOT .S (R674). -/
def execNotS (o : Ops2) (s : State) : Out := set2 s o (~~~(from2 s o))

/-- ZERO .L (R675). -/
def execZeroL (o : OpsZ) (s : State) : Out := setZero s o

/-- ZERO .L, pair (R675). -/
def execZeroLLong (o : OpsZ) (s : State) : Out :=
  s.onCond o.cond (.next (s.putLong o.side o.dst 0))

/-- ZERO .S (R675). -/
def execZeroS (o : OpsZ) (s : State) : Out := setZero s o

/-- ZERO .D (R675). -/
def execZeroD (o : OpsZ) (s : State) : Out := setZero s o

/-- MVKL: the MVK word (R672). -/
def execMvkl (o : OpsK) (s : State) : Out := setK s o (o.cst.signExtend 32)

/-- MVKLH: the MVKH word (45_move_control.md R641). -/
def execMvklh (o : OpsK) (s : State) : Out :=
  setK s o ((o.cst.setWidth 32 <<< 16) ||| (s.reg o.side o.dst &&& 0x0000FFFF))

end Sys2Proof.Machine
end

