-- ==== Sys2Proof/Machine/Dispatch.lean ====
section
/-! DEFINITION. One arm per instruction: what the instruction does in E1, from the state at the start of the cycle. -/

namespace Sys2Proof.Machine

def exec (i : Instr) (s : State) : Host.Outcome State Fault Refusal :=
  match i with
  | .addL o => Sys2Proof.Machine.execAddL o s
  | .addLToLong o => Sys2Proof.Machine.execAddLToLong o s
  | .addLLong o => Sys2Proof.Machine.execAddLLong o s
  | .addLCst o => Sys2Proof.Machine.execAddLCst o s
  | .addLCstLong o => Sys2Proof.Machine.execAddLCstLong o s
  | .addu o => Sys2Proof.Machine.execAddu o s
  | .adduLong o => Sys2Proof.Machine.execAdduLong o s
  | .subL o => Sys2Proof.Machine.execSubL o s
  | .subLX o => Sys2Proof.Machine.execSubLX o s
  | .subLToLong o => Sys2Proof.Machine.execSubLToLong o s
  | .subLXToLong o => Sys2Proof.Machine.execSubLXToLong o s
  | .subLCst o => Sys2Proof.Machine.execSubLCst o s
  | .subLCstLong o => Sys2Proof.Machine.execSubLCstLong o s
  | .subu o => Sys2Proof.Machine.execSubu o s
  | .subuX o => Sys2Proof.Machine.execSubuX o s
  | .subc o => Sys2Proof.Machine.execSubc o s
  | .sadd o => Sys2Proof.Machine.execSadd o s
  | .saddLong o => Sys2Proof.Machine.execSaddLong o s
  | .saddCst o => Sys2Proof.Machine.execSaddCst o s
  | .saddCstLong o => Sys2Proof.Machine.execSaddCstLong o s
  | .ssub o => Sys2Proof.Machine.execSsub o s
  | .ssubX o => Sys2Proof.Machine.execSsubX o s
  | .ssubCst o => Sys2Proof.Machine.execSsubCst o s
  | .ssubCstLong o => Sys2Proof.Machine.execSsubCstLong o s
  | .sat o => Sys2Proof.Machine.execSat o s
  | .abs o => Sys2Proof.Machine.execAbs o s
  | .absLong o => Sys2Proof.Machine.execAbsLong o s
  | .andL o => Sys2Proof.Machine.execAndL o s
  | .andLCst o => Sys2Proof.Machine.execAndLCst o s
  | .orL o => Sys2Proof.Machine.execOrL o s
  | .orLCst o => Sys2Proof.Machine.execOrLCst o s
  | .xorL o => Sys2Proof.Machine.execXorL o s
  | .xorLCst o => Sys2Proof.Machine.execXorLCst o s
  | .cmpeq o => Sys2Proof.Machine.execCmpeq o s
  | .cmpeqCst o => Sys2Proof.Machine.execCmpeqCst o s
  | .cmpeqLong o => Sys2Proof.Machine.execCmpeqLong o s
  | .cmpeqCstLong o => Sys2Proof.Machine.execCmpeqCstLong o s
  | .cmpgt o => Sys2Proof.Machine.execCmpgt o s
  | .cmpgtCst o => Sys2Proof.Machine.execCmpgtCst o s
  | .cmpgtLong o => Sys2Proof.Machine.execCmpgtLong o s
  | .cmpgtCstLong o => Sys2Proof.Machine.execCmpgtCstLong o s
  | .cmpgtu o => Sys2Proof.Machine.execCmpgtu o s
  | .cmpgtuCst o => Sys2Proof.Machine.execCmpgtuCst o s
  | .cmpgtuLong o => Sys2Proof.Machine.execCmpgtuLong o s
  | .cmpgtuCstLong o => Sys2Proof.Machine.execCmpgtuCstLong o s
  | .cmplt o => Sys2Proof.Machine.execCmplt o s
  | .cmpltCst o => Sys2Proof.Machine.execCmpltCst o s
  | .cmpltLong o => Sys2Proof.Machine.execCmpltLong o s
  | .cmpltCstLong o => Sys2Proof.Machine.execCmpltCstLong o s
  | .cmpltu o => Sys2Proof.Machine.execCmpltu o s
  | .cmpltuCst o => Sys2Proof.Machine.execCmpltuCst o s
  | .cmpltuLong o => Sys2Proof.Machine.execCmpltuLong o s
  | .cmpltuCstLong o => Sys2Proof.Machine.execCmpltuCstLong o s
  | .lmbd o => Sys2Proof.Machine.execLmbd o s
  | .lmbdCst o => Sys2Proof.Machine.execLmbdCst o s
  | .norm o => Sys2Proof.Machine.execNorm o s
  | .normLong o => Sys2Proof.Machine.execNormLong o s
  | .mpy o => Sys2Proof.Machine.execMpy o s
  | .mpyCst o => Sys2Proof.Machine.execMpyCst o s
  | .mpyu o => Sys2Proof.Machine.execMpyu o s
  | .mpyus o => Sys2Proof.Machine.execMpyus o s
  | .mpysu o => Sys2Proof.Machine.execMpysu o s
  | .mpysuCst o => Sys2Proof.Machine.execMpysuCst o s
  | .mpyh o => Sys2Proof.Machine.execMpyh o s
  | .mpyhu o => Sys2Proof.Machine.execMpyhu o s
  | .mpyhus o => Sys2Proof.Machine.execMpyhus o s
  | .mpyhsu o => Sys2Proof.Machine.execMpyhsu o s
  | .mpyhl o => Sys2Proof.Machine.execMpyhl o s
  | .mpyhlu o => Sys2Proof.Machine.execMpyhlu o s
  | .mpyhuls o => Sys2Proof.Machine.execMpyhuls o s
  | .mpyhslu o => Sys2Proof.Machine.execMpyhslu o s
  | .mpylh o => Sys2Proof.Machine.execMpylh o s
  | .mpylhu o => Sys2Proof.Machine.execMpylhu o s
  | .mpyluhs o => Sys2Proof.Machine.execMpyluhs o s
  | .mpylshu o => Sys2Proof.Machine.execMpylshu o s
  | .smpy o => Sys2Proof.Machine.execSmpy o s
  | .smpyh o => Sys2Proof.Machine.execSmpyh o s
  | .smpyhl o => Sys2Proof.Machine.execSmpyhl o s
  | .smpylh o => Sys2Proof.Machine.execSmpylh o s
  | .addS o => Sys2Proof.Machine.execAddS o s
  | .addSCst o => Sys2Proof.Machine.execAddSCst o s
  | .subS o => Sys2Proof.Machine.execSubS o s
  | .subSCst o => Sys2Proof.Machine.execSubSCst o s
  | .add2 o => Sys2Proof.Machine.execAdd2 o s
  | .sub2 o => Sys2Proof.Machine.execSub2 o s
  | .andS o => Sys2Proof.Machine.execAndS o s
  | .andSCst o => Sys2Proof.Machine.execAndSCst o s
  | .orS o => Sys2Proof.Machine.execOrS o s
  | .orSCst o => Sys2Proof.Machine.execOrSCst o s
  | .xorS o => Sys2Proof.Machine.execXorS o s
  | .xorSCst o => Sys2Proof.Machine.execXorSCst o s
  | .shl o => Sys2Proof.Machine.execShl o s
  | .shlLong o => Sys2Proof.Machine.execShlLong o s
  | .shlToLong o => Sys2Proof.Machine.execShlToLong o s
  | .shlCst o => Sys2Proof.Machine.execShlCst o s
  | .shlCstLong o => Sys2Proof.Machine.execShlCstLong o s
  | .shlCstToLong o => Sys2Proof.Machine.execShlCstToLong o s
  | .shr o => Sys2Proof.Machine.execShr o s
  | .shrLong o => Sys2Proof.Machine.execShrLong o s
  | .shrCst o => Sys2Proof.Machine.execShrCst o s
  | .shrCstLong o => Sys2Proof.Machine.execShrCstLong o s
  | .shru o => Sys2Proof.Machine.execShru o s
  | .shruLong o => Sys2Proof.Machine.execShruLong o s
  | .shruCst o => Sys2Proof.Machine.execShruCst o s
  | .shruCstLong o => Sys2Proof.Machine.execShruCstLong o s
  | .sshl o => Sys2Proof.Machine.execSshl o s
  | .sshlCst o => Sys2Proof.Machine.execSshlCst o s
  | .setReg o => Sys2Proof.Machine.execSetReg o s
  | .clrReg o => Sys2Proof.Machine.execClrReg o s
  | .extReg o => Sys2Proof.Machine.execExtReg o s
  | .extuReg o => Sys2Proof.Machine.execExtuReg o s
  | .mvcRead o => Sys2Proof.Machine.execMvcRead o s
  | .mvcWrite o => Sys2Proof.Machine.execMvcWrite o s
  | .bReg o => Sys2Proof.Machine.execBReg o s
  | .bIrp o => Sys2Proof.Machine.execBIrp o s
  | .bNrp o => Sys2Proof.Machine.execBNrp o s
  | .addD o => Sys2Proof.Machine.execAddD o s
  | .addDCst o => Sys2Proof.Machine.execAddDCst o s
  | .subD o => Sys2Proof.Machine.execSubD o s
  | .subDCst o => Sys2Proof.Machine.execSubDCst o s
  | .addab o => Sys2Proof.Machine.execAddab o s
  | .addabCst o => Sys2Proof.Machine.execAddabCst o s
  | .addah o => Sys2Proof.Machine.execAddah o s
  | .addahCst o => Sys2Proof.Machine.execAddahCst o s
  | .addaw o => Sys2Proof.Machine.execAddaw o s
  | .addawCst o => Sys2Proof.Machine.execAddawCst o s
  | .subab o => Sys2Proof.Machine.execSubab o s
  | .subabCst o => Sys2Proof.Machine.execSubabCst o s
  | .subah o => Sys2Proof.Machine.execSubah o s
  | .subahCst o => Sys2Proof.Machine.execSubahCst o s
  | .subaw o => Sys2Proof.Machine.execSubaw o s
  | .subawCst o => Sys2Proof.Machine.execSubawCst o s
  | .addk o => Sys2Proof.Machine.execAddk o s
  | .mvk o => Sys2Proof.Machine.execMvk o s
  | .mvkh o => Sys2Proof.Machine.execMvkh o s
  | .extu o => Sys2Proof.Machine.execExtu o s
  | .ext o => Sys2Proof.Machine.execExt o s
  | .set o => Sys2Proof.Machine.execSet o s
  | .clr o => Sys2Proof.Machine.execClr o s
  | .bDisp o => Sys2Proof.Machine.execBDisp o s
  | .ldhu o => Sys2Proof.Machine.execLdhu o s
  | .ldbu o => Sys2Proof.Machine.execLdbu o s
  | .ldb o => Sys2Proof.Machine.execLdb o s
  | .stb o => Sys2Proof.Machine.execStb o s
  | .ldh o => Sys2Proof.Machine.execLdh o s
  | .sth o => Sys2Proof.Machine.execSth o s
  | .ldw o => Sys2Proof.Machine.execLdw o s
  | .stw o => Sys2Proof.Machine.execStw o s
  | .ldhu15 o => Sys2Proof.Machine.execLdhu15 o s
  | .ldbu15 o => Sys2Proof.Machine.execLdbu15 o s
  | .ldb15 o => Sys2Proof.Machine.execLdb15 o s
  | .stb15 o => Sys2Proof.Machine.execStb15 o s
  | .ldh15 o => Sys2Proof.Machine.execLdh15 o s
  | .sth15 o => Sys2Proof.Machine.execSth15 o s
  | .ldw15 o => Sys2Proof.Machine.execLdw15 o s
  | .stw15 o => Sys2Proof.Machine.execStw15 o s
  | .nop src => Sys2Proof.Machine.execNop src s
  | .nop9 => Sys2Proof.Machine.execNop9 s
  | .idle => Sys2Proof.Machine.execIdle s
  | .mvL o => Sys2Proof.Machine.execMvL o s
  | .mvLLong o => Sys2Proof.Machine.execMvLLong o s
  | .mvS o => Sys2Proof.Machine.execMvS o s
  | .mvD o => Sys2Proof.Machine.execMvD o s
  | .negL o => Sys2Proof.Machine.execNegL o s
  | .negLLong o => Sys2Proof.Machine.execNegLLong o s
  | .negS o => Sys2Proof.Machine.execNegS o s
  | .notL o => Sys2Proof.Machine.execNotL o s
  | .notS o => Sys2Proof.Machine.execNotS o s
  | .zeroL o => Sys2Proof.Machine.execZeroL o s
  | .zeroLLong o => Sys2Proof.Machine.execZeroLLong o s
  | .zeroS o => Sys2Proof.Machine.execZeroS o s
  | .zeroD o => Sys2Proof.Machine.execZeroD o s
  | .mvkl o => Sys2Proof.Machine.execMvkl o s
  | .mvklh o => Sys2Proof.Machine.execMvklh o s

end Sys2Proof.Machine
end

