-- ==== Sys2Proof/Decode.lean ====
section
/-! DEFINITION. From the 32 bits of a word to an instruction (30_encoding.md R200 to R255), total, every word that is no
instruction rejected by name; then the encoder, and the hooks the host's checks use.  Bit 0, the p-bit, is no part of the
instruction (R206): fetching reads it. -/

namespace Sys2Proof

/-- The .L op values, bits 11 to 5 (30_encoding.md R250). -/
def opsL : List (BitVec 7 × (Ops3 → Instr)) :=
  [(0b0000011, .addL), (0b0100011, .addLToLong), (0b0100001, .addLLong), (0b0000010, .addLCst), (0b0100000, .addLCstLong),
   (0b0101011, .addu), (0b0101001, .adduLong), (0b0000111, .subL), (0b0010111, .subLX), (0b0100111, .subLToLong),
   (0b0110111, .subLXToLong), (0b0000110, .subLCst), (0b0100100, .subLCstLong), (0b0101111, .subu), (0b0111111, .subuX),
   (0b1001011, .subc), (0b0010011, .sadd), (0b0110001, .saddLong), (0b0010010, .saddCst), (0b0110000, .saddCstLong)] ++
  [(0b0001111, .ssub), (0b0011111, .ssubX), (0b0001110, .ssubCst), (0b0101100, .ssubCstLong), (0b1000000, .sat),
   (0b0011010, .abs), (0b0111000, .absLong), (0b1111011, .andL), (0b1111010, .andLCst), (0b1111111, .orL),
   (0b1111110, .orLCst), (0b1101111, .xorL), (0b1101110, .xorLCst), (0b1010011, .cmpeq), (0b1010010, .cmpeqCst),
   (0b1010001, .cmpeqLong), (0b1010000, .cmpeqCstLong), (0b1000111, .cmpgt), (0b1000110, .cmpgtCst), (0b1000101, .cmpgtLong)] ++
  [(0b1000100, .cmpgtCstLong), (0b1001111, .cmpgtu), (0b1001110, .cmpgtuCst), (0b1001101, .cmpgtuLong), (0b1001100, .cmpgtuCstLong),
   (0b1010111, .cmplt), (0b1010110, .cmpltCst), (0b1010101, .cmpltLong), (0b1010100, .cmpltCstLong), (0b1011111, .cmpltu),
   (0b1011110, .cmpltuCst), (0b1011101, .cmpltuLong), (0b1011100, .cmpltuCstLong), (0b1101011, .lmbd), (0b1101010, .lmbdCst),
   (0b1100011, .norm), (0b1100000, .normLong)]

/-- The .M op values, bits 11 to 7 (30_encoding.md R251). -/
def opsM : List (BitVec 5 × (Ops3 → Instr)) :=
  [(0b11001, .mpy), (0b11000, .mpyCst), (0b11111, .mpyu), (0b11101, .mpyus), (0b11011, .mpysu),
   (0b11110, .mpysuCst), (0b00001, .mpyh), (0b00111, .mpyhu), (0b00101, .mpyhus), (0b00011, .mpyhsu),
   (0b01001, .mpyhl), (0b01111, .mpyhlu), (0b01101, .mpyhuls), (0b01011, .mpyhslu), (0b10001, .mpylh),
   (0b10111, .mpylhu), (0b10101, .mpyluhs), (0b10011, .mpylshu), (0b11010, .smpy), (0b00010, .smpyh)] ++
  [(0b01010, .smpyhl), (0b10010, .smpylh)]

/-- The .S op values, bits 11 to 6, but for B IRP and B NRP (30_encoding.md R252). -/
def opsS : List (BitVec 6 × (Ops3 → Instr)) :=
  [(0b000111, .addS), (0b000110, .addSCst), (0b010111, .subS), (0b010110, .subSCst), (0b000001, .add2),
   (0b010001, .sub2), (0b011111, .andS), (0b011110, .andSCst), (0b011011, .orS), (0b011010, .orSCst),
   (0b001011, .xorS), (0b001010, .xorSCst), (0b110011, .shl), (0b110001, .shlLong), (0b010011, .shlToLong),
   (0b110010, .shlCst), (0b110000, .shlCstLong), (0b010010, .shlCstToLong), (0b110111, .shr), (0b110101, .shrLong)] ++
  [(0b110110, .shrCst), (0b110100, .shrCstLong), (0b100111, .shru), (0b100101, .shruLong), (0b100110, .shruCst),
   (0b100100, .shruCstLong), (0b100011, .sshl), (0b100010, .sshlCst), (0b111011, .setReg), (0b111111, .clrReg),
   (0b101111, .extReg), (0b101011, .extuReg), (0b001111, .mvcRead), (0b001110, .mvcWrite), (0b001101, .bReg)]

/-- The .D op values, bits 12 to 7 (30_encoding.md R253). -/
def opsD : List (BitVec 6 × (OpsD → Instr)) :=
  [(0b010000, .addD), (0b010010, .addDCst), (0b010001, .subD), (0b010011, .subDCst), (0b110000, .addab),
   (0b110010, .addabCst), (0b110100, .addah), (0b110110, .addahCst), (0b111000, .addaw), (0b111010, .addawCst),
   (0b110001, .subab), (0b110011, .subabCst), (0b110101, .subah), (0b110111, .subahCst), (0b111001, .subaw),
   (0b111011, .subawCst)]

/-- The constant field operations, bits 7 to 6 (30_encoding.md R241). -/
def opsField : List (BitVec 2 × (OpsField → Instr)) :=
  [(0b00, .extu), (0b01, .ext), (0b10, .set), (0b11, .clr)]

/-- The loads and stores with base and offset, bits 6 to 4 (30_encoding.md R254). -/
def opsMem : List (BitVec 3 × (OpsMem → Instr)) :=
  [(0b000, .ldhu), (0b001, .ldbu), (0b010, .ldb), (0b011, .stb), (0b100, .ldh),
   (0b101, .sth), (0b110, .ldw), (0b111, .stw)]

/-- The loads and stores with a 15-bit offset, bits 6 to 4 (30_encoding.md R254). -/
def opsMem15 : List (BitVec 3 × (OpsMem15 → Instr)) :=
  [(0b000, .ldhu15), (0b001, .ldbu15), (0b010, .ldb15), (0b011, .stb15), (0b100, .ldh15),
   (0b101, .sth15), (0b110, .ldw15), (0b111, .stw15)]

/-- The addressing mode of a mode field (43_load_store.md R553); none for the four values Table 3-6 does not list. -/
def AddrMode.ofBits (m : BitVec 4) : Option AddrMode :=
  [(0b0000, AddrMode.negCst), (0b0001, .posCst), (0b0100, .negReg), (0b0101, .posReg),
   (0b1000, .preDecCst), (0b1001, .preIncCst), (0b1010, .postDecCst), (0b1011, .postIncCst),
   (0b1100, .preDecReg), (0b1101, .preIncReg), (0b1110, .postDecReg), (0b1111, .postIncReg)].lookup m

/-- The condition of the fields creg and z (30_encoding.md R212, R214). -/
def Cond.ofBits (creg : BitVec 3) (z : Bool) : Except DecodeError Cond :=
  match creg.toNat with
  | 0 => if z then .error .reservedCondition else .ok .always
  | 1 => .ok (if z then .zero .b0 else .nonzero .b0)
  | 2 => .ok (if z then .zero .b1 else .nonzero .b1)
  | 3 => .ok (if z then .zero .b2 else .nonzero .b2)
  | 4 => .ok (if z then .zero .a1 else .nonzero .a1)
  | 5 => .ok (if z then .zero .a2 else .nonzero .a2)
  | _ => .error .reservedCondition

/-- The condition in bits 31 to 28 of a word. -/
def wordCond (w : Word) : Except DecodeError Cond :=
  Cond.ofBits (w.extractLsb' 29 3) (w.getLsbD 28)

/-- The side in bit 1 of a word (30_encoding.md R220). -/
def wordSide (w : Word) : Side :=
  Side.ofBit (w.getLsbD 1)

/-- The fields of the .L, .M and .S formats (30_encoding.md R235, R236, R237). -/
def wordOps3 (w : Word) (c : Cond) : Ops3 :=
  { cond := c, side := wordSide w, x := w.getLsbD 12, dst := w.extractLsb' 23 5, src2 := w.extractLsb' 18 5
    src1 := w.extractLsb' 13 5 }

/-- The fields of the .D format (30_encoding.md R238). -/
def wordOpsD (w : Word) (c : Cond) : OpsD :=
  { cond := c, side := wordSide w, dst := w.extractLsb' 23 5, src2 := w.extractLsb' 18 5, src1 := w.extractLsb' 13 5 }

/-- The fields of ADDK, MVK and MVKH (30_encoding.md R239, R240). -/
def wordOpsK (w : Word) (c : Cond) : OpsK :=
  { cond := c, side := wordSide w, dst := w.extractLsb' 23 5, cst := w.extractLsb' 7 16 }

/-- The fields of the constant field operations (30_encoding.md R241). -/
def wordOpsField (w : Word) (c : Cond) : OpsField :=
  { cond := c, side := wordSide w, dst := w.extractLsb' 23 5, src2 := w.extractLsb' 18 5, csta := w.extractLsb' 13 5
    cstb := w.extractLsb' 8 5 }

/-- The fields of B with a displacement (30_encoding.md R242). -/
def wordOpsBr (w : Word) (c : Cond) : OpsBr :=
  { cond := c, side := wordSide w, cst := w.extractLsb' 7 21 }

/-- The fields of B IRP and B NRP (30_encoding.md R252). -/
def wordOpsRet (w : Word) (c : Cond) : OpsRet :=
  { cond := c, side := wordSide w, x := w.getLsbD 12, dst := w.extractLsb' 23 5, src1 := w.extractLsb' 13 5 }

/-- The fields of a load or store with base and offset, its mode decoded (30_encoding.md R243). -/
def wordOpsMem (w : Word) (c : Cond) (m : AddrMode) : OpsMem :=
  { cond := c, unit := Side.ofBit (w.getLsbD 7), side := wordSide w, data := w.extractLsb' 23 5
    base := w.extractLsb' 18 5, offset := w.extractLsb' 13 5, mode := m }

/-- The fields of a load or store with a 15-bit offset (30_encoding.md R244). -/
def wordOpsMem15 (w : Word) (c : Cond) : OpsMem15 :=
  { cond := c, fromB15 := w.getLsbD 7, side := wordSide w, data := w.extractLsb' 23 5, offset := w.extractLsb' 8 15 }

/-- The entry of an op table, or the refusal of an op value it does not list (30_encoding.md R248 (b)). -/
def listedOp {n : Nat} {α : Type} (table : List (BitVec n × α)) (op : BitVec n) : Except DecodeError α :=
  match table.lookup op with
  | some f => .ok f
  | none => .error .unlistedOp

/-- NOP and IDLE, the .M format with op 0 (30_encoding.md R245, R246): no condition field. -/
def decodeNop (w : Word) : Except DecodeError Instr :=
  if w.extractLsb' 17 15 = 0 ∧ w.extractLsb' 1 12 = 0 then
    if w.extractLsb' 13 4 = 15 then .ok .idle
    else if w.extractLsb' 13 4 = 8 then .ok .nop9
    else if w.extractLsb' 13 4 < 8 then .ok (.nop (w.extractLsb' 13 3))
    else .error .badNop
  else .error .badNop

/-- The .M format (30_encoding.md R236). -/
def decodeM (w : Word) : Except DecodeError Instr :=
  if w.extractLsb' 7 5 = 0 then decodeNop w
  else do
    let f ← listedOp opsM (w.extractLsb' 7 5)
    let c ← wordCond w
    .ok (f (wordOps3 w c))

/-- The .L format (30_encoding.md R235). -/
def decodeL (w : Word) : Except DecodeError Instr := do
  let f ← listedOp opsL (w.extractLsb' 5 7)
  let c ← wordCond w
  .ok (f (wordOps3 w c))

/-- The .S format (30_encoding.md R237); op 000011 is B IRP or B NRP by its src2 field (R252). -/
def decodeS (w : Word) : Except DecodeError Instr :=
  if w.extractLsb' 6 6 = 0b000011 then
    if w.extractLsb' 18 5 = 0b00110 then do
      let c ← wordCond w
      .ok (.bIrp (wordOpsRet w c))
    else if w.extractLsb' 18 5 = 0b00111 then do
      let c ← wordCond w
      .ok (.bNrp (wordOpsRet w c))
    else .error .unlistedOp
  else do
    let f ← listedOp opsS (w.extractLsb' 6 6)
    let c ← wordCond w
    .ok (f (wordOps3 w c))

/-- The .D format (30_encoding.md R238). -/
def decodeD (w : Word) : Except DecodeError Instr := do
  let f ← listedOp opsD (w.extractLsb' 7 6)
  let c ← wordCond w
  .ok (f (wordOpsD w c))

/-- The ADDK format (30_encoding.md R239). -/
def decodeAddk (w : Word) : Except DecodeError Instr := do
  let c ← wordCond w
  .ok (.addk (wordOpsK w c))

/-- The MVK format, bit 6 choosing MVKH (30_encoding.md R240). -/
def decodeMvk (w : Word) : Except DecodeError Instr := do
  let c ← wordCond w
  .ok (if w.getLsbD 6 then .mvkh (wordOpsK w c) else .mvk (wordOpsK w c))

/-- The constant field operations (30_encoding.md R241). -/
def decodeField (w : Word) : Except DecodeError Instr := do
  let f ← listedOp opsField (w.extractLsb' 6 2)
  let c ← wordCond w
  .ok (f (wordOpsField w c))

/-- B with a displacement (30_encoding.md R242). -/
def decodeBr (w : Word) : Except DecodeError Instr := do
  let c ← wordCond w
  .ok (.bDisp (wordOpsBr w c))

/-- Loads and stores with base and offset (30_encoding.md R243, R232). -/
def decodeMem (w : Word) : Except DecodeError Instr := do
  let f ← listedOp opsMem (w.extractLsb' 4 3)
  let c ← wordCond w
  if w.getLsbD 8 then .error .rBitSet
  else match AddrMode.ofBits (w.extractLsb' 9 4) with
    | some m => .ok (f (wordOpsMem w c m))
    | none => .error .unlistedMode

/-- Loads and stores with a 15-bit offset (30_encoding.md R244). -/
def decodeMem15 (w : Word) : Except DecodeError Instr := do
  let f ← listedOp opsMem15 (w.extractLsb' 4 3)
  let c ← wordCond w
  .ok (f (wordOpsMem15 w c))

/-- The tree of 30_encoding.md R247 on bits 6 to 2, before the checks on register fields. -/
def decodeFormat (w : Word) : Except DecodeError Instr :=
  if w.extractLsb' 2 2 = 0b01 then decodeMem w
  else if w.extractLsb' 2 2 = 0b11 then decodeMem15 w
  else if w.extractLsb' 2 2 = 0b10 then
    if w.getLsbD 4 then decodeL w
    else if w.getLsbD 5 then decodeMvk w
    else decodeField w
  else if w.extractLsb' 4 2 = 0b10 then decodeS w
  else if w.extractLsb' 4 3 = 0b000 then decodeM w
  else if w.extractLsb' 4 3 = 0b100 then decodeD w
  else if w.extractLsb' 4 3 = 0b101 then decodeAddk w
  else if w.extractLsb' 4 3 = 0b001 then decodeBr w
  else .error .noFormat

/-- The instruction of a word (30_encoding.md R247, R248). -/
def decode (w : Word) : Except DecodeError Instr := do
  let i ← decodeFormat w
  match i.fieldError with
  | none => .ok i
  | some e => .error e

/-- Four bytes in address order to a word: the lowest address holds the least significant byte when `little`, else the
most significant (20_memory.md R150, R151, R152; logs 18, 19). -/
def wordOfBytes (little : Bool) (b0 b1 b2 b3 : Byte) : Word :=
  if little then b3 ++ b2 ++ b1 ++ b0 else b0 ++ b1 ++ b2 ++ b3

/-- The four bytes of a word in address order. -/
def bytesOfWord (little : Bool) (w : Word) : List Byte :=
  if little then [w.extractLsb' 0 8, w.extractLsb' 8 8, w.extractLsb' 16 8, w.extractLsb' 24 8]
  else [w.extractLsb' 24 8, w.extractLsb' 16 8, w.extractLsb' 8 8, w.extractLsb' 0 8]

/-- The instruction at the head of a list of bytes, and the rest of the list; none when fewer than four bytes are left
or they are no instruction. -/
def decodeBytes (little : Bool) : List Byte → Option (Instr × List Byte)
  | b0 :: b1 :: b2 :: b3 :: rest =>
    match decode (wordOfBytes little b0 b1 b2 b3) with
    | .ok i => some (i, rest)
    | .error _ => none
  | _ => none

/-- The instruction the decoder reads from a table word: one 32-bit word stored in the byte order of `State.reset`; the
bits above `nbits` are 0. -/
def decodeTableWord (nbits w : Nat) : Option Instr :=
  (decodeBytes Config.defaultLittleEndian
    (bytesOfWord Config.defaultLittleEndian (BitVec.ofNat 32 (w % 2 ^ nbits)))).map Prod.fst

/-! The encoder, from the same tables. -/

/-- The fields creg and z of a condition (30_encoding.md R212). -/
def Cond.bits : Cond → BitVec 4
  | .always => 0b0000
  | .nonzero .b0 => 0b0010
  | .zero .b0 => 0b0011
  | .nonzero .b1 => 0b0100
  | .zero .b1 => 0b0101
  | .nonzero .b2 => 0b0110
  | .zero .b2 => 0b0111
  | .nonzero .a1 => 0b1000
  | .zero .a1 => 0b1001
  | .nonzero .a2 => 0b1010
  | .zero .a2 => 0b1011

/-- The mode field of an addressing mode (43_load_store.md R553). -/
def AddrMode.bits : AddrMode → BitVec 4
  | .negCst => 0b0000
  | .posCst => 0b0001
  | .negReg => 0b0100
  | .posReg => 0b0101
  | .preDecCst => 0b1000
  | .preIncCst => 0b1001
  | .postDecCst => 0b1010
  | .postIncCst => 0b1011
  | .preDecReg => 0b1100
  | .preIncReg => 0b1101
  | .postDecReg => 0b1110
  | .postIncReg => 0b1111

/-- Bits 1 and 0: the s bit and a p-bit of 0. -/
def sideBits (s : Side) : BitVec 2 :=
  BitVec.ofBool s.bit ++ 0b0#1

/-- The .L, .M and .S formats: the eleven bits 12 to 2 are x, op and the fixed bits (30_encoding.md R235 to R237). -/
def encode3 (o : Ops3) (op : BitVec 10) : Word :=
  o.cond.bits ++ o.dst ++ o.src2 ++ o.src1 ++ BitVec.ofBool o.x ++ op ++ sideBits o.side

/-- The .L format (30_encoding.md R235). -/
def encodeL (op : BitVec 7) (o : Ops3) : Word := encode3 o (op ++ 0b110#3)

/-- The .M format (30_encoding.md R236). -/
def encodeM (op : BitVec 5) (o : Ops3) : Word := encode3 o (op ++ 0b00000#5)

/-- The .S format (30_encoding.md R237). -/
def encodeS (op : BitVec 6) (o : Ops3) : Word := encode3 o (op ++ 0b1000#4)

/-- B IRP and B NRP, by the src2 field (30_encoding.md R252). -/
def encodeRet (src2 : BitVec 5) (o : OpsRet) : Word :=
  encodeS 0b000011 { cond := o.cond, side := o.side, x := o.x, dst := o.dst, src2 := src2, src1 := o.src1 }

/-- The .D format (30_encoding.md R238). -/
def encodeD (op : BitVec 6) (o : OpsD) : Word :=
  o.cond.bits ++ o.dst ++ o.src2 ++ o.src1 ++ op ++ 0b10000#5 ++ sideBits o.side

/-- The ADDK and MVK formats, bits 6 to 2 given (30_encoding.md R239, R240). -/
def encodeK (low : BitVec 5) (o : OpsK) : Word :=
  o.cond.bits ++ o.dst ++ o.cst ++ low ++ sideBits o.side

/-- The constant field operations (30_encoding.md R241). -/
def encodeField (op : BitVec 2) (o : OpsField) : Word :=
  o.cond.bits ++ o.dst ++ o.src2 ++ o.csta ++ o.cstb ++ op ++ 0b0010#4 ++ sideBits o.side

/-- B with a displacement (30_encoding.md R242). -/
def encodeBr (o : OpsBr) : Word :=
  o.cond.bits ++ o.cst ++ 0b00100#5 ++ sideBits o.side

/-- Loads and stores with base and offset, r = 0 (30_encoding.md R243). -/
def encodeMem (op : BitVec 3) (o : OpsMem) : Word :=
  o.cond.bits ++ o.data ++ o.base ++ o.offset ++ o.mode.bits ++ 0b0#1 ++ BitVec.ofBool o.unit.bit ++ op ++ 0b01#2
    ++ sideBits o.side

/-- Loads and stores with a 15-bit offset (30_encoding.md R244). -/
def encodeMem15 (op : BitVec 3) (o : OpsMem15) : Word :=
  o.cond.bits ++ o.data ++ o.offset ++ BitVec.ofBool o.fromB15 ++ op ++ 0b11#2 ++ sideBits o.side

/-- NOP and IDLE by the src field (30_encoding.md R245, R246). -/
def encodeNop (src : BitVec 4) : Word :=
  0#15 ++ src ++ 0#13

/-- The word of an instruction, with a p-bit of 0; a pseudo-operation has the word of the machine instruction it stands
for. -/
def encode : Instr → Word
  | .addL o => encodeL 0b0000011 o
  | .addLToLong o => encodeL 0b0100011 o
  | .addLLong o => encodeL 0b0100001 o
  | .addLCst o => encodeL 0b0000010 o
  | .addLCstLong o => encodeL 0b0100000 o
  | .addu o => encodeL 0b0101011 o
  | .adduLong o => encodeL 0b0101001 o
  | .subL o => encodeL 0b0000111 o
  | .subLX o => encodeL 0b0010111 o
  | .subLToLong o => encodeL 0b0100111 o
  | .subLXToLong o => encodeL 0b0110111 o
  | .subLCst o => encodeL 0b0000110 o
  | .subLCstLong o => encodeL 0b0100100 o
  | .subu o => encodeL 0b0101111 o
  | .subuX o => encodeL 0b0111111 o
  | .subc o => encodeL 0b1001011 o
  | .sadd o => encodeL 0b0010011 o
  | .saddLong o => encodeL 0b0110001 o
  | .saddCst o => encodeL 0b0010010 o
  | .saddCstLong o => encodeL 0b0110000 o
  | .ssub o => encodeL 0b0001111 o
  | .ssubX o => encodeL 0b0011111 o
  | .ssubCst o => encodeL 0b0001110 o
  | .ssubCstLong o => encodeL 0b0101100 o
  | .sat o => encodeL 0b1000000 o
  | .abs o => encodeL 0b0011010 o
  | .absLong o => encodeL 0b0111000 o
  | .andL o => encodeL 0b1111011 o
  | .andLCst o => encodeL 0b1111010 o
  | .orL o => encodeL 0b1111111 o
  | .orLCst o => encodeL 0b1111110 o
  | .xorL o => encodeL 0b1101111 o
  | .xorLCst o => encodeL 0b1101110 o
  | .cmpeq o => encodeL 0b1010011 o
  | .cmpeqCst o => encodeL 0b1010010 o
  | .cmpeqLong o => encodeL 0b1010001 o
  | .cmpeqCstLong o => encodeL 0b1010000 o
  | .cmpgt o => encodeL 0b1000111 o
  | .cmpgtCst o => encodeL 0b1000110 o
  | .cmpgtLong o => encodeL 0b1000101 o
  | .cmpgtCstLong o => encodeL 0b1000100 o
  | .cmpgtu o => encodeL 0b1001111 o
  | .cmpgtuCst o => encodeL 0b1001110 o
  | .cmpgtuLong o => encodeL 0b1001101 o
  | .cmpgtuCstLong o => encodeL 0b1001100 o
  | .cmplt o => encodeL 0b1010111 o
  | .cmpltCst o => encodeL 0b1010110 o
  | .cmpltLong o => encodeL 0b1010101 o
  | .cmpltCstLong o => encodeL 0b1010100 o
  | .cmpltu o => encodeL 0b1011111 o
  | .cmpltuCst o => encodeL 0b1011110 o
  | .cmpltuLong o => encodeL 0b1011101 o
  | .cmpltuCstLong o => encodeL 0b1011100 o
  | .lmbd o => encodeL 0b1101011 o
  | .lmbdCst o => encodeL 0b1101010 o
  | .norm o => encodeL 0b1100011 o
  | .normLong o => encodeL 0b1100000 o
  | .mpy o => encodeM 0b11001 o
  | .mpyCst o => encodeM 0b11000 o
  | .mpyu o => encodeM 0b11111 o
  | .mpyus o => encodeM 0b11101 o
  | .mpysu o => encodeM 0b11011 o
  | .mpysuCst o => encodeM 0b11110 o
  | .mpyh o => encodeM 0b00001 o
  | .mpyhu o => encodeM 0b00111 o
  | .mpyhus o => encodeM 0b00101 o
  | .mpyhsu o => encodeM 0b00011 o
  | .mpyhl o => encodeM 0b01001 o
  | .mpyhlu o => encodeM 0b01111 o
  | .mpyhuls o => encodeM 0b01101 o
  | .mpyhslu o => encodeM 0b01011 o
  | .mpylh o => encodeM 0b10001 o
  | .mpylhu o => encodeM 0b10111 o
  | .mpyluhs o => encodeM 0b10101 o
  | .mpylshu o => encodeM 0b10011 o
  | .smpy o => encodeM 0b11010 o
  | .smpyh o => encodeM 0b00010 o
  | .smpyhl o => encodeM 0b01010 o
  | .smpylh o => encodeM 0b10010 o
  | .addS o => encodeS 0b000111 o
  | .addSCst o => encodeS 0b000110 o
  | .subS o => encodeS 0b010111 o
  | .subSCst o => encodeS 0b010110 o
  | .add2 o => encodeS 0b000001 o
  | .sub2 o => encodeS 0b010001 o
  | .andS o => encodeS 0b011111 o
  | .andSCst o => encodeS 0b011110 o
  | .orS o => encodeS 0b011011 o
  | .orSCst o => encodeS 0b011010 o
  | .xorS o => encodeS 0b001011 o
  | .xorSCst o => encodeS 0b001010 o
  | .shl o => encodeS 0b110011 o
  | .shlLong o => encodeS 0b110001 o
  | .shlToLong o => encodeS 0b010011 o
  | .shlCst o => encodeS 0b110010 o
  | .shlCstLong o => encodeS 0b110000 o
  | .shlCstToLong o => encodeS 0b010010 o
  | .shr o => encodeS 0b110111 o
  | .shrLong o => encodeS 0b110101 o
  | .shrCst o => encodeS 0b110110 o
  | .shrCstLong o => encodeS 0b110100 o
  | .shru o => encodeS 0b100111 o
  | .shruLong o => encodeS 0b100101 o
  | .shruCst o => encodeS 0b100110 o
  | .shruCstLong o => encodeS 0b100100 o
  | .sshl o => encodeS 0b100011 o
  | .sshlCst o => encodeS 0b100010 o
  | .setReg o => encodeS 0b111011 o
  | .clrReg o => encodeS 0b111111 o
  | .extReg o => encodeS 0b101111 o
  | .extuReg o => encodeS 0b101011 o
  | .mvcRead o => encodeS 0b001111 o
  | .mvcWrite o => encodeS 0b001110 o
  | .bReg o => encodeS 0b001101 o
  | .bIrp o => encodeRet 0b00110 o
  | .bNrp o => encodeRet 0b00111 o
  | .addD o => encodeD 0b010000 o
  | .addDCst o => encodeD 0b010010 o
  | .subD o => encodeD 0b010001 o
  | .subDCst o => encodeD 0b010011 o
  | .addab o => encodeD 0b110000 o
  | .addabCst o => encodeD 0b110010 o
  | .addah o => encodeD 0b110100 o
  | .addahCst o => encodeD 0b110110 o
  | .addaw o => encodeD 0b111000 o
  | .addawCst o => encodeD 0b111010 o
  | .subab o => encodeD 0b110001 o
  | .subabCst o => encodeD 0b110011 o
  | .subah o => encodeD 0b110101 o
  | .subahCst o => encodeD 0b110111 o
  | .subaw o => encodeD 0b111001 o
  | .subawCst o => encodeD 0b111011 o
  | .addk o => encodeK 0b10100 o
  | .mvk o => encodeK 0b01010 o
  | .mvkh o => encodeK 0b11010 o
  | .extu o => encodeField 0b00 o
  | .ext o => encodeField 0b01 o
  | .set o => encodeField 0b10 o
  | .clr o => encodeField 0b11 o
  | .bDisp o => encodeBr o
  | .ldhu o => encodeMem 0b000 o
  | .ldbu o => encodeMem 0b001 o
  | .ldb o => encodeMem 0b010 o
  | .stb o => encodeMem 0b011 o
  | .ldh o => encodeMem 0b100 o
  | .sth o => encodeMem 0b101 o
  | .ldw o => encodeMem 0b110 o
  | .stw o => encodeMem 0b111 o
  | .ldhu15 o => encodeMem15 0b000 o
  | .ldbu15 o => encodeMem15 0b001 o
  | .ldb15 o => encodeMem15 0b010 o
  | .stb15 o => encodeMem15 0b011 o
  | .ldh15 o => encodeMem15 0b100 o
  | .sth15 o => encodeMem15 0b101 o
  | .ldw15 o => encodeMem15 0b110 o
  | .stw15 o => encodeMem15 0b111 o
  | .nop src => encodeNop (0b0#1 ++ src)
  | .nop9 => encodeNop 8
  | .idle => encodeNop 15
  | .mvL o => encodeL 0b0000010 (o.withSrc1 0)
  | .mvLLong o => encodeL 0b0100000 (o.withSrc1 0)
  | .mvS o => encodeS 0b000110 (o.withSrc1 0)
  | .mvD o => encodeD 0b010010 (o.withSrc1 0)
  | .negL o => encodeL 0b0000110 (o.withSrc1 0)
  | .negLLong o => encodeL 0b0100100 (o.withSrc1 0)
  | .negS o => encodeS 0b010110 (o.withSrc1 0)
  | .notL o => encodeL 0b1101110 (o.withSrc1 31)
  | .notS o => encodeS 0b001010 (o.withSrc1 31)
  | .zeroL o => encodeL 0b0010111 o.all3
  | .zeroLLong o => encodeL 0b0110111 o.all3
  | .zeroS o => encodeS 0b010111 o.all3
  | .zeroD o => encodeD 0b010001 o.allD
  | .mvkl o => encodeK 0b01010 o
  | .mvklh o => encodeK 0b11010 o

end Sys2Proof
end

