-- ==== Sys2Proof/Machine/Fetch.lean ====
section
/-! DEFINITION. Fetching an execute packet (30_encoding.md R200 to R210), and placing an instruction where the next fetch
finds it. -/

namespace Sys2Proof.Machine

/-- One byte of the program, from program memory or a unified memory; where the map has neither, be it a data memory or
a peripheral's window, the fetch is unmapped (20_memory.md R141, R143, R152, D25; logs 6, 7, 8). -/
def State.fetchByte (s : State) (a : Nat) : Except Stop Byte :=
  match s.fetchRegion a with
  | none => .error (.fault .unmappedAccess)
  | some r =>
    match (if r.space = .program then s.prog else s.mem).read a with
    | some b => .ok b
    | none => .error (.fault .uninitialisedMemory)

/-- `ProgWord(a)`, in the byte order of data (20_memory.md R152, D8; log 19). -/
def State.fetchWord (s : State) (a : Word) : Except Stop Word := do
  let b0 ← s.fetchByte a.toNat
  let b1 ← s.fetchByte (a.toNat + 1)
  let b2 ← s.fetchByte (a.toNat + 2)
  let b3 ← s.fetchByte (a.toNat + 3)
  .ok (wordOfBytes s.littleEndian b0 b1 b2 b3)

/-- The p-bit chain from an address, at most n words (30_encoding.md R206, R207). -/
def State.fetchChain (s : State) : Nat → Word → Except Stop (List Word)
  | 0, _ => .error (.refused (.illegalPacket .crossesFetchPacket))
  | n + 1, a => do
    let w ← s.fetchWord a
    if w.getLsbD 0 then
      if a.extractLsb' 0 5 = 28 then .error (.refused (.illegalPacket .crossesFetchPacket))
      else do
        let ws ← s.fetchChain n (a + 4)
        .ok (w :: ws)
    else .ok [w]

/-- `ExecutePacketAt(pc)` (30_encoding.md R206, R208); a pc that is not a multiple of 4 is the misaligned target of a
branch (log 21). -/
def State.fetchPacket (s : State) : Except Stop (List Word) :=
  if s.pc.extractLsb' 0 2 ≠ 0 then .error (.fault .misalignedBranchTarget)
  else s.fetchChain 8 s.pc

/-- The instructions of the words of a packet; a word that is none refuses the packet (30_encoding.md R248). -/
def decodeAll : List Word → Except Stop (List Instr)
  | [] => .ok []
  | w :: ws =>
    match decode w with
    | .error e => .error (.refused (.illegalWord e))
    | .ok i => do
      let is ← decodeAll ws
      .ok (i :: is)

/-- The cells of a word stored at an address in the byte order of the state. -/
def State.wordCells (s : State) (a : Nat) (w : Word) : List Host.Cell :=
  (List.range' a 4).zip (bytesOfWord s.littleEndian w)

/-- A word, and after one whose p-bit is 1 a NOP to end its packet. -/
def programCells (s : State) (a : Nat) (w : Word) : List Host.Cell :=
  s.wordCells a w ++ (if w.getLsbD 0 then s.wordCells (a + 4) 0 else [])

/-- A word placed where the next fetch reads, with all that the very next step needs to issue it: a fetchable pc, no hold,
no interrupt entry, no power-down and no reset in the coming cycle (log 9). -/
def State.placeAtPc (s : State) (w : Word) : State :=
  let pc := s.pc &&& 0xFFFFFFFC
  let ready : State :=
    { s with
      pc := pc
      hold := .count 0
      intHold := 0
      power := .none
      env := match s.env with
        | [] => []
        | e :: es => { e with reset := false } :: es }
  match s.fetchRegion pc.toNat with
  | some r =>
    if r.space = .program then { ready with prog := s.prog.writeAll (programCells s pc.toNat w) }
    else { ready with mem := s.mem.writeAll (programCells s pc.toNat w) }
  | none =>
    { ready with
      prog := s.prog.writeAll (programCells s pc.toNat w)
      launch := { s.launch with map := { base := pc.toNat, size := 8, space := .program } :: s.launch.map } }

end Sys2Proof.Machine
end

