-- ==== Sys2Proof/Machine/Packet.lean ====
section
/-! DEFINITION. What may share an execute packet (70_reset_and_hazards.md section 2). -/

namespace Sys2Proof.Machine

/-- Some element of a list stands in it twice. -/
def hasTwice {α : Type} [DecidableEq α] : List α → Bool
  | [] => false
  | x :: xs => decide (x ∈ xs) || hasTwice xs

/-- How often an element stands in a list. -/
def timesIn {α : Type} [DecidableEq α] (x : α) : List α → Nat
  | [] => 0
  | y :: ys => (if y = x then 1 else 0) + timesIn x ys

/-- The first resource constraint that a packet breaks, if any: R810, R812, R822, R824 (a), (b), (c), R826 (log 30). -/
def packetError (is : List Instr) : Option PacketError :=
  let uses := is.map Instr.use
  let reads := uses.flatMap Use.reads
  if hasTwice (uses.filterMap Use.unit) then some .unitTwice
  else if hasTwice (uses.filterMap Use.cross) then some .crossPathTwice
  else if hasTwice (uses.filterMap Use.dataPath) then some .dataPathTwice
  else if hasTwice (uses.filterMap Use.longResult) then some .longResultTwice
  else if hasTwice (uses.filterMap Use.longSource) then some .longSourceTwice
  else if (uses.filterMap Use.longSource).any (fun f => decide (f ∈ uses.filterMap Use.storeFile)) then
    some .longSourceWithStore
  else if reads.any (fun r => decide (4 < timesIn r reads)) then some .fiveReads
  else none

end Sys2Proof.Machine
end

