-- ==== Sys2Proof/Machine/Issue.lean ====
section
/-! DEFINITION. Step B of a cycle (70_reset_and_hazards.md R804): the packet at pc, checked, and its instructions in
E1. -/

namespace Sys2Proof.Machine

/-- The instructions of the packet at pc; refused when one is no instruction or the packet is not legal
(30_encoding.md R248, 70_reset_and_hazards.md R815).  DESIGN CHOICE: a packet to refuse for both reasons is refused for
its first word that is no instruction (log 49). -/
def State.packet (s : State) : Except Stop (List Instr) := do
  let ws ← s.fetchPacket
  let is ← decodeAll ws
  match packetError is with
  | some e => .error (.refused (.illegalPacket e))
  | none => .ok is

/-- The instructions of a packet in E1.  Each reads the registers, the memory and the control registers of the start of
the cycle, because `exec` only adds to the effects (70_reset_and_hazards.md R801).  DESIGN CHOICE: when several of them
stop, the first in the order of the words is reported, a store's stop before that of a load behind it too (log 49). -/
def runPacket : List Instr → State → Out
  | [], s => .next s
  | i :: is, s =>
    match exec i s with
    | .next t => runPacket is t
    | .fault f => .fault f
    | .refused r => .refused r

end Sys2Proof.Machine
end

