-- ==== Sys2Proof/Machine/Cycle.lean ====
section
/-! DEFINITION. One CPU cycle, line by line as 70_reset_and_hazards.md R804 has it: the environment, the issue, the
interrupt decision, and the end of the cycle. -/

namespace Sys2Proof.Machine

/-! ## A. Environment -/

/-- The environment's entry for this cycle; nothing happens after the schedule's end. -/
def State.envNow (s : State) : EnvCycle :=
  s.env.headD { reset := false, arrive := 0 }

/-- The schedule moves on, and arrivals of the thirteen interrupts join `IntLatch` (60_exceptions.md R710). -/
def State.takeEnv (s : State) : State :=
  { s with env := s.env.tail, intLatch := s.intLatch ||| (s.envNow.arrive &&& interruptMask) }

/-! ## B. Whether a packet issues -/

/-- No execute packet enters E1 in this cycle. -/
def State.held (s : State) : Bool :=
  s.intHold != 0 || s.power != .none || s.hold != .count 0

/-! ## C. Decision -/

/-- The hardware clear of the flag of the interrupt being entered, two cycles after its decision (60_exceptions.md
R735). -/
def State.hardwareClear (s : State) : BitVec 16 :=
  if s.intHold = 6 then BitVec.twoPow 16 s.entering.toNat else 0

/-- `IFRnext`: incoming signals beat every clear, ISR beats ICR (60_exceptions.md R712). -/
def State.nextIfr (s : State) : Word :=
  (s.ifr &&& ~~~((s.pendingIfr.clear ||| s.hardwareClear).setWidth 32))
    ||| (s.pendingIfr.set ||| s.intLatch).setWidth 32

/-- `BranchShadow` as the end of this cycle leaves it (60_exceptions.md R722). -/
def State.nextShadow (s : State) : Nat :=
  if s.e1.branchSeen then 5 else s.branchShadow - 1

/-- The cycle ends a PD1 power-down (60_exceptions.md R761). -/
def State.wakes (s : State) : Bool :=
  match s.power with
  | .pd1Enabled => candidates s.nextIfr s.ier != 0
  | .pd1Any => s.nextIfr.setWidth 16 &&& interruptMask != 0
  | .none => false
  | .pd2 => false
  | .pd3 => false

/-- `Take(k)` and its m: enables as they are at the start of the cycle, flags and branch shadow as its end leaves them
(60_exceptions.md R722, R723; log 32). -/
def State.decision (s : State) : Option (BitVec 4) :=
  if s.intHold = 0 ∧ (s.power = .none ∨ s.wakes = true) ∧ s.nextShadow = 0 ∧ s.nmie = true then
    match lowestSet (candidates s.nextIfr s.ier) with
    | some m => if m = 1 ∨ s.gie = true then some m else none
    | none => none
  else none

/-! ## D. End of the cycle -/

/-- An entry of a pending list is due at the end of this cycle (log 36). -/
def due (left : Nat) : Bool := decide (left ≤ 1)

/-- The register writes of this cycle: those falling due, and the zero-delay writes of the packet. -/
def State.landing (s : State) : List RegWrite :=
  (s.pendingRegs.filter (fun p => due p.left)).map LateWrite.write ++ s.e1.regs

/-- The register a write goes to. -/
def RegWrite.target (w : RegWrite) : Side × BitVec 4 := (w.side, w.reg)

/-- The entries that stay, one cycle nearer. -/
def stillLate (l : List LateWrite) : List LateWrite :=
  (l.filter (fun p => !due p.left)).map (fun p => { p with left := p.left - 1 })

/-- D.1: register writes land, unless two go to one register (70_reset_and_hazards.md R803, R820). -/
def State.retire (s : State) : Except Stop State :=
  if hasTwice (s.landing.map RegWrite.target) then .error (.fault .writeConflict)
  else .ok { s.landing.foldl State.writeReg s with pendingRegs := stillLate s.pendingRegs ++ s.e1.late }

/-- The packet's stores reach memory, after its loads have read it (20_memory.md R182). -/
def State.commitStores (s : State) : State :=
  { s with mem := s.mem.writeAll s.e1.stores }

/-- The IFR update and IACK, INUM of an entry's second cycle (60_exceptions.md R712, R735, R736). -/
def State.updateFlags (s : State) : State :=
  { s with
    ifr := s.nextIfr
    pendingIfr := {}
    intLatch := 0
    iack := decide (s.intHold = 6)
    inum := if s.intHold = 6 then s.entering else 0 }

/-- SAT sets falling due, after the packet's own control-register writes (10_state.md R65). -/
def State.updateSat (s : State) : State :=
  { s with
    csr := if s.pendingSat.any due then setBit s.csr 9 true else s.csr
    pendingSat := ((s.pendingSat.filter (fun n => !due n)).map (· - 1)) ++ s.e1.sat }

/-- D.2: flags from the command and arrivals in flight, control-register writes, SAT. -/
def State.updateControl (s : State) : State :=
  (s.e1.ctrl.foldl State.applyCtrl s.updateFlags).updateSat

/-- One held cycle has passed. -/
def Hold.tick : Hold → Hold
  | .count n => .count (n - 1)
  | .idle => .idle

/-- The branches that stay pending, one cycle nearer, and the packet's own (44_branch.md R601). -/
def State.nextBranches (s : State) : List PendingBranch :=
  (s.pendingBranches.filter (fun p => !due p.left)).map (fun p => { p with left := p.left - 1 })
    ++ s.e1.branch.toList.map (fun t => { target := t, left := 5 })

/-- D.3: an expiring branch sets pc and ends a hold; else pc moves past the packet that issued, if one did
(44_branch.md R601, R603; 10_state.md R52, R54; 45_move_control.md R652, R655). -/
def State.advancePc (s : State) (issued : Option Nat) : Except Stop State :=
  match s.pendingBranches.find? (fun p => due p.left) with
  | some p => .ok { s with pc := p.target, hold := .count 0, pendingBranches := s.nextBranches }
  | none =>
    match issued with
    | some n =>
      if s.pc.toNat + 4 * n < 4294967296 then
        .ok { s with pc := s.pc + BitVec.ofNat 32 (4 * n), hold := s.e1.hold, pendingBranches := s.nextBranches }
      else .error (.fault .pcWrap)
    | none => .ok { s with hold := s.hold.tick, pendingBranches := s.nextBranches }

/-- The end of a power-down: PWRD keeps its value or becomes 0, freely (60_exceptions.md R761, U12; log 16). -/
def State.wakeUp (s : State) : State :=
  { s.drawn with power := .none, csr := if s.freeBit then s.csr else s.csr &&& 0xFFFF03FF }

/-- D.4 and D.5, the end of a power-down, and the effects of the packet used up. -/
def State.countDown (s : State) (shadow : Nat) (wake : Bool) : State :=
  let t := if wake then s.wakeUp else s
  { t with branchShadow := shadow, intHold := s.intHold - 1, e1 := {} }

/-- D.6: the interrupt entered, if one is taken. -/
def State.enter (s : State) : Option (BitVec 4) → State
  | some m => s.takeInterrupt m
  | none => s

/-- The end of a cycle in which `issued` words were in E1 (none: no packet), steps C and D, in the order of
70_reset_and_hazards.md R804: a writeConflict of D.1 comes before a pcWrap of D.3. -/
def State.endCycle (s : State) (issued : Option Nat) : Out :=
  outcome do
    let t ← s.retire
    let u ← t.commitStores.updateControl.advancePc issued
    .ok ((u.countDown s.nextShadow s.wakes).enter s.decision)

/-- One CPU cycle (70_reset_and_hazards.md R804). -/
def State.cycle (s : State) : Out :=
  if s.envNow.reset then .next s.takeEnv.resetEvent
  else if s.takeEnv.held then s.takeEnv.endCycle none
  else
    match s.takeEnv.packet with
    | .error e => outcome (.error e)
    | .ok is =>
      match runPacket is s.takeEnv with
      | .next t => t.endCycle (some is.length)
      | .fault f => .fault f
      | .refused r => .refused r

end Sys2Proof.Machine
end

