-- ==== Sys2Proof/Machine/Step.lean ====
section
/-! DEFINITION. The step: one CPU cycle (00_scope.md R19). -/

namespace Sys2Proof.Machine

/-- One step is one CPU cycle (70_reset_and_hazards.md R804). -/
def step (s : State) : Host.Outcome State Fault Refusal :=
  s.cycle

/-- The state with an instruction word stored where the next step fetches (log 9). -/
def State.withFetchWord (s : State) (nbits w : Nat) : State :=
  s.placeAtPc (BitVec.ofNat 32 (w % 2 ^ nbits))

end Sys2Proof.Machine
end

