-- ==== Sys2Proof/Safety.lean ====
section
/-! DEFINITION. The words the statements use: the invariant that every step keeps, what a legal environment is, what a
quiescent state is, a run of several steps, and a state in which nothing is in flight. -/

namespace Sys2Proof.Machine

/-! ## The invariant -/

/-- Both memories are in their canonical form (20_memory.md R140). -/
abbrev State.MemoryInv (s : State) : Prop :=
  s.mem.wf = true ∧ s.prog.wf = true

/-- The control registers hold only values they can hold: reserved bits of AMR (10_state.md R62), CPU ID (R64), a legal
PWRD that agrees with the power-down in force (60_exceptions.md R761, R762), reserved bits of IFR (R69) and of IER, with
bit 0 of IER always 1 (R72). -/
abbrev State.ControlInv (s : State) : Prop :=
  s.amr &&& 0xFC000000 = 0
    ∧ s.csr.extractLsb' 24 8 = 0
    ∧ powerOf (s.csr.extractLsb' 10 6) ≠ none
    ∧ (s.power = .none ∨ powerOf (s.csr.extractLsb' 10 6) = some s.power)
    ∧ s.ifr &&& 0xFFFF000D = 0
    ∧ s.ier &&& 0xFFFF000D = 1

/-- A hold is at most the eight held cycles of NOP 9, or the IDLE state (45_move_control.md R652, R655). -/
def Hold.small : Hold → Bool
  | .count n => decide (n ≤ 8)
  | .idle => true

/-- What is in flight has a number of cycles left that an instruction can give it (10_state.md R78); a pending branch
goes to a word address (44_branch.md R601) and is covered by the branch shadow (60_exceptions.md R722); the pending
branches stand oldest first, and no two expire in one cycle (44_branch.md R602 (b)). -/
abbrev State.PendingInv (s : State) : Prop :=
  (∀ p ∈ s.pendingRegs, 1 ≤ p.left ∧ p.left ≤ 4)
    ∧ (∀ p ∈ s.pendingBranches, 1 ≤ p.left ∧ p.left ≤ s.branchShadow ∧ p.target.extractLsb' 0 2 = 0)
    ∧ s.pendingBranches.Pairwise (fun p q => p.left < q.left)
    ∧ s.branchShadow ≤ 5
    ∧ (∀ n ∈ s.pendingSat, 1 ≤ n ∧ n ≤ 2)
    ∧ s.hold.small = true

/-- The interrupt logic names only interrupts that exist: {1, 4, ..., 15} (60_exceptions.md R702), and {4, ..., 15} for
ISR and ICR (10_state.md R70); an entry lasts at most seven cycles (R737). -/
abbrev State.InterruptInv (s : State) : Prop :=
  s.intLatch &&& ~~~interruptMask = 0
    ∧ s.pendingIfr.set &&& ~~~maskableMask = 0
    ∧ s.pendingIfr.clear &&& ~~~maskableMask = 0
    ∧ s.intHold ≤ 7
    ∧ (s.intHold = 0 ∨ interruptMask.getLsbD s.entering.toNat = true)

/-- The invariant of the machine between two cycles: the program pointer is a word address (10_state.md R51, R53), and
no packet is in E1. -/
abbrev State.Inv (s : State) : Prop :=
  s.MemoryInv ∧ s.ControlInv ∧ s.PendingInv ∧ s.InterruptInv ∧ s.pc.extractLsb' 0 2 = 0 ∧ s.e1 = {}

/-! ## What the instructions in E1 may do -/

/-- `t` is `s` with effects of the packet in E1 added and free values drawn: every register, control register, memory
byte and every piece of in-flight state is as it was (70_reset_and_hazards.md R801, R804 step B). -/
structure AddsEffects (s t : State) : Prop where
  rest : t = { s with e1 := t.e1, freeIdx := t.freeIdx }
  regs : s.e1.regs <+: t.e1.regs
  late : s.e1.late <+: t.e1.late
  stores : s.e1.stores <+: t.e1.stores
  branch : s.e1.branch = none ∨ t.e1.branch = s.e1.branch
  seen : s.e1.branchSeen = true → t.e1.branchSeen = true
  sat : s.e1.sat <+: t.e1.sat
  ctrl : s.e1.ctrl <+: t.e1.ctrl

/-- The PWRD value of a write of CSR is a legal one (60_exceptions.md R762). -/
def CtrlWrite.legal : CtrlWrite → Bool
  | .csr v _ => (powerOf (v.extractLsb' 10 6)).isSome
  | .amr _ => true
  | .isr _ => true
  | .icr _ => true
  | .ier _ => true
  | .istp _ => true
  | .irp _ => true
  | .nrp _ => true
  | .returnIrp => true
  | .returnNrp => true

/-- Effects that a packet can have: results have 1 or 4 delay slots (70_reset_and_hazards.md R802), stores stay in the
address space, a taken branch goes to a word address and counts as a branch, SAT falls due after one or two cycles
(10_state.md R65). -/
structure Effects.Ok (e : Effects) : Prop where
  late : ∀ p ∈ e.late, 1 ≤ p.left ∧ p.left ≤ 4
  stores : ∀ c ∈ e.stores, c.1 < 4294967296
  target : ∀ t ∈ e.branch, t.extractLsb' 0 2 = 0
  seen : e.branch ≠ none → e.branchSeen = true
  sat : ∀ n ∈ e.sat, 1 ≤ n ∧ n ≤ 2
  ctrl : ∀ c ∈ e.ctrl, c.legal = true
  hold : e.hold.small = true

/-! ## The environment -/

/-- A schedule the environment may have: only interrupts that exist arrive, and none in two consecutive cycles
(60_exceptions.md R790, R714). -/
def envLegal : List EnvCycle → Bool
  | [] => true
  | [e] => e.arrive &&& ~~~interruptMask == 0
  | e :: f :: es => (e.arrive &&& ~~~interruptMask == 0) && (e.arrive &&& f.arrive == 0) && envLegal (f :: es)

/-- Nothing happens from outside in the coming cycle. -/
def State.envSilent (s : State) : Prop :=
  s.envNow = { reset := false, arrive := 0 }

/-! ## Runs -/

/-- A run of n cycles. -/
def run : Nat → State → Out
  | 0, s => .next s
  | n + 1, s =>
    match step s with
    | .next t => run n t
    | .fault f => .fault f
    | .refused r => .refused r

/-- The state of 70_reset_and_hazards.md R861 (a): idle or powered down, with no branch that could end it and nothing in
flight. -/
def State.quiescent (s : State) : Prop :=
  (s.hold = .idle ∨ s.power ≠ .none) ∧ s.pendingBranches = [] ∧ s.pendingRegs = [] ∧ s.pendingSat = []
    ∧ s.pendingIfr = {}

/-- No Reset comes in the first n cycles. -/
def State.noReset (s : State) (n : Nat) : Prop :=
  ∀ e ∈ s.env.take n, e.reset = false

/-- Nothing is in flight, nothing arrives, and no interrupt can be taken: the next cycle shows the packet in E1 alone. -/
structure State.Quiet (s : State) : Prop where
  regs : s.pendingRegs = []
  branches : s.pendingBranches = []
  shadow : s.branchShadow = 0
  sat : s.pendingSat = []
  command : s.pendingIfr = {}
  hold : s.hold = .count 0
  latch : s.intLatch = 0
  entry : s.intHold = 0
  ack : s.iack = false
  number : s.inum = 0
  power : s.power = .none
  env : s.env = []
  effects : s.e1 = {}
  none : lowestSet (candidates s.ifr s.ier) = none

/-! ## Results in the spec's own arithmetic

The spec gives results as integers cut to a width (00_scope.md R14); these say the same of the model's states. -/

/-- `R[side, field] <- trunc_32(v)` with zero delay slots. -/
def State.sets (s : State) (side : Side) (field : BitVec 5) (v : Int) : State :=
  s.putReg side field (BitVec.ofInt 32 v)

/-- `Long(side, field) <- trunc_40(v)`: bits 31 to 0 to the even register, bits 39 to 32, zero-filled, to the odd one
(10_state.md R44). -/
def State.setsPair (s : State) (side : Side) (field : BitVec 5) (v : Int) : State :=
  (s.sets side field v).sets side (field + 1) (v / 2 ^ 32 % 2 ^ 8)

/-- `R[side, field] <-(d) trunc_32(v)`. -/
def State.setsLate (s : State) (side : Side) (field : BitVec 5) (v : Int) (d : Nat) : State :=
  s.putLate side field (BitVec.ofInt 32 v) d

/-- `if cond then t else nop` (30_encoding.md R213). -/
def State.ifHolds (s : State) (c : Cond) (t : State) : Out :=
  .next (if s.holds c then t else s)

/-- The free word of the next draw written as a result (log 10). -/
def State.setsFree (s : State) (side : Side) (field : BitVec 5) : State :=
  s.drawn.putReg side field s.freeWord

/-- 1 if the comparison holds, else 0 (41_logic_shift_bitfield.md R419). -/
def truth (p : Prop) [Decidable p] : Int := if p then 1 else 0

/-- `satn(v)`: v clamped to the signed range of n bits. -/
def saturated (n : Nat) (v : Int) : Int :=
  max (-2 ^ (n - 1)) (min (2 ^ (n - 1) - 1) v)

/-- A saturated 32-bit result, with `SetSat(1)` when the clamp changed it (40_arith.md R301). -/
def State.setsSaturated (s : State) (side : Side) (field : BitVec 5) (v : Int) : State :=
  if saturated 32 v = v then s.sets side field v else (s.sets side field (saturated 32 v)).requestSat 1

/-- A saturated 40-bit result, with `SetSat(1)` when the clamp changed it. -/
def State.setsPairSaturated (s : State) (side : Side) (field : BitVec 5) (v : Int) : State :=
  if saturated 40 v = v then s.setsPair side field v else (s.setsPair side field (saturated 40 v)).requestSat 1

/-- Twice a product as the SMPY family leaves it: 2^31 becomes 7FFF FFFFh with `SetSat(2)` (42_multiply.md R519). -/
def State.setsDouble (s : State) (side : Side) (field : BitVec 5) (p : Int) : State :=
  if 2 * p = 2 ^ 31 then (s.setsLate side field (2 ^ 31 - 1) 1).requestSat 2 else s.setsLate side field (2 * p) 1

/-- Bits 15 to 0 as a signed integer (42_multiply.md R500). -/
def signedLow (v : Word) : Int := Int.bmod (v.toNat % 2 ^ 16 : Nat) (2 ^ 16)

/-- Bits 15 to 0 as an unsigned integer. -/
def unsignedLow (v : Word) : Int := (v.toNat % 2 ^ 16 : Nat)

/-- Bits 31 to 16 as a signed integer. -/
def signedHigh (v : Word) : Int := Int.bmod (v.toNat / 2 ^ 16 : Nat) (2 ^ 16)

/-- Bits 31 to 16 as an unsigned integer. -/
def unsignedHigh (v : Word) : Int := (v.toNat / 2 ^ 16 : Nat)

/-- Two halves side by side. -/
def halves (high low : Nat) : Int := (high % 2 ^ 16 * 2 ^ 16 + low % 2 ^ 16 : Nat)

/-! ## Addresses -/

/-- The AMR mode of a base register (20_memory.md R166). -/
def State.addrMode (s : State) (side : Side) (field : BitVec 5) : Nat :=
  (circularMode s.amr side (field.setWidth 4)).toNat

/-- Only bits n to 0 of the address change (20_memory.md R168); for n = 31 that is all of them. -/
def wrapped (n : Nat) (base lin : Int) : Int :=
  base / 2 ^ (n + 1) * 2 ^ (n + 1) + lin % 2 ^ (n + 1)

/-- The base plus a signed byte offset, in the mode of the base register (20_memory.md R165), for the modes 0, 1 and
2. -/
def State.addressOf (s : State) (side : Side) (field : BitVec 5) (off : Int) : Int :=
  let base : Int := (s.reg side field).toNat
  if s.addrMode side field = 0 then base + off
  else if s.addrMode side field = 1 then wrapped (s.amr.extractLsb' 16 5).toNat base (base + off)
  else wrapped (s.amr.extractLsb' 21 5).toNat base (base + off)

/-- The signed byte offset of a load or store (43_load_store.md R553). -/
def State.byteOffset (s : State) (o : OpsMem) (k : Nat) : Int :=
  let off : Nat := (if o.mode.usesReg then (s.reg o.unit o.offset).toNat else o.offset.toNat) * 2 ^ k
  if o.mode.adds then off else -off

/-- What the base register becomes in the modes that write it (43_load_store.md R553). -/
def State.baseAfter (s : State) (o : OpsMem) (k : Nat) : Int :=
  s.addressOf o.unit o.base (s.byteOffset o k)

/-- The byte address a load or store uses (43_load_store.md R553). -/
def State.accessAddress (s : State) (o : OpsMem) (k : Nat) : Nat :=
  if o.mode.isPost then (s.reg o.unit o.base).toNat else (BitVec.ofInt 32 (s.baseAfter o k)).toNat

/-- The base register written where the mode says so. -/
def State.setsBase (s : State) (o : OpsMem) (k : Nat) : State :=
  if o.mode.modifies then s.sets o.unit o.base (s.baseAfter o k) else s

/-- The byte address of the 15-bit form (43_load_store.md R570). -/
def State.accessAddress15 (s : State) (o : OpsMem15) (k : Nat) : Nat :=
  ((s.reg .b (if o.fromB15 then 15 else 14)).toNat + o.offset.toNat * 2 ^ k) % 2 ^ 32

/-! ## Memory accesses -/

/-- The n bytes from an address may be loaded and are `b 0`, `b 1`, ... -/
def State.bytesAre (s : State) (a n : Nat) (b : Nat → Byte) : Prop :=
  ∀ i, i < n → s.checkData (a + i) = .ok () ∧ s.mem.read (a + i) = some (b i)

/-- The weight of byte i of n in the byte order of the state (20_memory.md R150, R151). -/
def byteWeight (little : Bool) (n i : Nat) : Nat :=
  256 ^ (if little then i else n - 1 - i)

/-- `MemRead`: the value of n bytes (20_memory.md R150, R151). -/
def bytesValue (little : Bool) (n : Nat) (b : Nat → Byte) : Nat :=
  ((List.range n).map (fun i => (b i).toNat * byteWeight little n i)).sum

/-- The n bytes from an address may be stored to, and no other store of the packet touches them. -/
def State.storable (s : State) (a n : Nat) : Prop :=
  ∀ i, i < n → s.checkData (a + i) = .ok () ∧ s.isText (a + i) = false ∧ ∀ c ∈ s.e1.stores, c.1 ≠ a + i

/-- `MemWrite`: n bytes of a value join the stores of the packet (20_memory.md R150, R151). -/
def State.storesBytes (s : State) (a n : Nat) (v : Word) : State :=
  { s with e1 := { s.e1 with
      stores := s.e1.stores ++
        (List.range n).map (fun i => (a + i, BitVec.ofNat 8 (v.toNat / byteWeight s.littleEndian n i))) } }

end Sys2Proof.Machine

namespace Sys2Proof

/-! ## Kinds of instruction -/

/-- B, B IRP and B NRP (44_branch.md R604). -/
def Instr.isBranch : Instr → Bool
  | .bDisp _ => true
  | .bReg _ => true
  | .bIrp _ => true
  | .bNrp _ => true
  | _ => false

/-- The instructions that set SAT when their result saturates (10_state.md R58). -/
def Instr.maySetSat : Instr → Bool
  | .sadd _ => true
  | .saddLong _ => true
  | .saddCst _ => true
  | .saddCstLong _ => true
  | .ssub _ => true
  | .ssubX _ => true
  | .ssubCst _ => true
  | .ssubCstLong _ => true
  | .sat _ => true
  | .sshl _ => true
  | .sshlCst _ => true
  | .smpy _ => true
  | .smpyh _ => true
  | .smpyhl _ => true
  | .smpylh _ => true
  | _ => false

/-- The instructions that write a control register of their own accord (45_move_control.md R631, 44_branch.md R615,
R620). -/
def Instr.writesControl : Instr → Bool
  | .mvcWrite _ => true
  | .bIrp _ => true
  | .bNrp _ => true
  | _ => false

end Sys2Proof
end

