-- ==== Sys2Proof/Certificates/Slice0/Obligations.lean ====
section
/-! DEFINITION. The statements about the model, for the provers.  Each docstring cites the rules of spec/ a statement comes
from; where a clause rests on a choice of the model it names the log entry. -/

section Statements

open Sys2Proof Sys2Proof.Machine

/-! ## Reset and the invariant -/

/-- The invariant holds right after reset, whatever the launch record, the silicon revision and the byte order
(10_state.md R80). -/
def Obligations.ResetSatisfiesInvariant : Prop :=
  State.reset.Inv ∧ ∀ (launch : Config.Launch) (revision : BitVec 8) (little : Bool),
    (State.resetWith launch revision little).Inv

/-- Every cycle keeps the invariant: memories canonical, reserved fields as they read, legal PWRD, in-flight counts in
range, pending branches oldest first and never two due in one cycle, only interrupts that exist, an aligned program
pointer, no effects left over (10_state.md R51, R62, R64, R69, R72, R78, 44_branch.md R602 (b), 60_exceptions.md R702,
R722, R737, R762). -/
def Obligations.StepKeepsInvariant : Prop :=
  ∀ s t : State, s.Inv → step s = .next t → t.Inv

/-- What the table of 10_state.md R80 gives for reset, in its order. -/
def Obligations.ResetLeavesTheStatedValues : Prop :=
  ∀ (launch : Config.Launch) (revision : BitVec 8) (little : Bool),
    let s := State.resetWith launch revision little
    s.pc.toNat = launch.istbReset.toNat * 1024
    ∧ s.amr = 0
    ∧ s.csr.toNat / 2 ^ 24 = 0
    ∧ s.csr.toNat / 2 ^ 16 % 2 ^ 8 = revision.toNat
    ∧ s.csr.toNat % 2 ^ 16 = (if little then 0x0100 else 0)
    ∧ s.ifr = 0
    ∧ s.pendingIfr = {}
    ∧ s.ier = 1
    ∧ s.istb = launch.istbReset
    ∧ s.readCtrl 5 = .ok (BitVec.ofNat 32 (launch.istbReset.toNat * 1024))
    ∧ s.pendingRegs = [] ∧ s.pendingBranches = [] ∧ s.branchShadow = 0 ∧ s.pendingSat = [] ∧ s.hold = .count 0
    ∧ s.intLatch = 0 ∧ s.intHold = 0 ∧ s.power = .none

/-- The event Reset, whatever is in progress: everything in flight is dropped, the control registers take their reset
values, no packet executes; memory stays (10_state.md R79, R80, 60_exceptions.md R745). -/
def Obligations.ResetEventEmptiesTheHiddenState : Prop :=
  ∀ s : State, s.envNow.reset = true → ∃ t : State, step s = .next t
    ∧ t.pendingRegs = [] ∧ t.pendingBranches = [] ∧ t.branchShadow = 0 ∧ t.pendingSat = [] ∧ t.pendingIfr = {}
    ∧ t.hold = .count 0 ∧ t.intHold = 0 ∧ t.power = .none ∧ t.intLatch = 0
    ∧ t.pc.toNat = s.launch.istbReset.toNat * 1024 ∧ t.amr = 0 ∧ t.ifr = 0 ∧ t.ier = 1 ∧ t.istb = s.launch.istbReset
    ∧ t.csr.toNat % 2 ^ 16 = (if s.littleEndian then 0x0100 else 0)
    ∧ t.csr.toNat / 2 ^ 16 % 2 ^ 8 = s.csr.toNat / 2 ^ 16 % 2 ^ 8
    ∧ (∀ a, t.mem.read a = s.mem.read a) ∧ (∀ a, t.prog.read a = s.prog.read a)
    ∧ t.launch = s.launch ∧ t.env = s.env.tail

/-! ## Encoding -/

/-- Decoding the word of a well-formed instruction gives it back, every operand at every value; a pseudo-operation gives
the machine instruction it stands for (30_encoding.md R235 to R255, 46_pseudo_ops.md R670). -/
def Obligations.EncodedInstructionDecodesBack : Prop :=
  ∀ i : Instr, i.WellFormed → decode (encode i) = .ok i.expand

/-- Encoding what a word decodes to gives the word back, but for its p-bit: no other bit is dropped (30_encoding.md R200,
R235 to R246). -/
def Obligations.DecodedWordEncodesBack : Prop :=
  ∀ (w : Word) (i : Instr), decode w = .ok i → encode i = w &&& 0xFFFFFFFE

/-- What a word decodes to is well-formed and no pseudo-operation, and the p-bit plays no part in it (30_encoding.md R206,
R222, R223, R248, 46_pseudo_ops.md R670). -/
def Obligations.DecodedInstructionIsWellFormed : Prop :=
  ∀ w : Word, decode (w ||| 1) = decode (w &&& 0xFFFFFFFE)
    ∧ ∀ i : Instr, decode w = .ok i → i.WellFormed ∧ i.expand = i

/-- No word with a reserved condition code decodes (30_encoding.md R214), none of a bit pattern without a format (R248
(a)), none of the base-and-offset format with r = 1 or an unlisted mode (R232, R248 (e), (h)), none of the NOP shape with
an unlisted count or a reserved bit set (R245, R248 (c)).  That such a word is refused is D19, D20, D24 (log 29). -/
def Obligations.IllegalWordsDoNotDecode : Prop :=
  ∀ (w : Word) (i : Instr),
    let creg := w.toNat / 2 ^ 29
    let z := w.toNat / 2 ^ 28 % 2
    let low := w.toNat / 4 % 2 ^ 5
    let mode := w.toNat / 2 ^ 9 % 16
    let op := w.toNat / 2 ^ 7 % 2 ^ 5
    (creg = 6 ∨ creg = 7 ∨ creg = 0 ∧ z = 1 → decode w ≠ .ok i)
    ∧ (low = 0b01100 ∨ low = 0b11100 → decode w ≠ .ok i)
    ∧ (low % 4 = 1 → w.toNat / 2 ^ 8 % 2 = 1 ∨ mode = 2 ∨ mode = 3 ∨ mode = 6 ∨ mode = 7 → decode w ≠ .ok i)
    ∧ (low = 0 → op = 0 →
        w.toNat / 2 ^ 17 ≠ 0 ∨ w.toNat / 2 % 2 ^ 12 ≠ 0 ∨ (8 < w.toNat / 2 ^ 13 % 16 ∧ w.toNat / 2 ^ 13 % 16 < 15) →
        decode w ≠ .ok i)

/-- Words written out from the encoding tables decode to their instructions (30_encoding.md R235 to R246, R250 to
R254): ADD .L1 A1,A2,A3; [!B0] MVK .S2 -5,B8; LDW .D1T1 *A4++[1],A6; B .S1 with displacement 3; MPY .M2X B1,A2,B3; NOP 5;
IDLE. -/
def Obligations.DecodingOfSpecWords : Prop :=
  decode 0b0000_00011_00010_00001_0_0000011_110_0_0
      = .ok (.addL { cond := .always, side := .a, x := false, dst := 3, src2 := 2, src1 := 1 })
    ∧ decode 0b0011_01000_1111111111111011_0_1010_1_0
      = .ok (.mvk { cond := .zero .b0, side := .b, dst := 8, cst := 0xFFFB })
    ∧ decode 0b0000_00110_00100_00001_1011_0_0_110_01_0_0
      = .ok (.ldw { cond := .always, unit := .a, side := .a, data := 6, base := 4, offset := 1, mode := .postIncCst })
    ∧ decode 0b0000_000000000000000000011_00100_0_0
      = .ok (.bDisp { cond := .always, side := .a, cst := 3 })
    ∧ decode 0b0000_00011_00010_00001_1_11001_00000_1_0
      = .ok (.mpy { cond := .always, side := .b, x := true, dst := 3, src2 := 2, src1 := 1 })
    ∧ decode 0b000000000000000_0100_0000000000000 = .ok (.nop 4)
    ∧ decode 0x0001E000 = .ok .idle

/-! ## From the program pointer to the meanings -/

/-- The next step runs the instruction decoded from the word at pc: when that word ends its packet (p = 0) and nothing
holds the issue, the step is `exec` of it on the state after the environment's entry, then the end of the cycle
(70_reset_and_hazards.md R804, 30_encoding.md R206). -/
def Obligations.StepRunsTheDecodedInstruction : Prop :=
  ∀ (s : State) (w : Word) (i : Instr),
    s.envNow.reset = false → s.held = false → s.pc.toNat % 4 = 0 → s.fetchWord s.pc = .ok w → w.getLsbD 0 = false →
    decode w = .ok i →
      step s = match exec i s.takeEnv with
        | .next t => t.endCycle (some 1)
        | .fault f => .fault f
        | .refused r => .refused r

/-- The next step runs a whole packet: its instructions one after another on the effects of E1, then the end of the
cycle; a packet that breaks a resource constraint, or that holds a word that is no instruction, is refused
(70_reset_and_hazards.md R804, R815, 30_encoding.md R248; that it is refused is D19, D22, logs 29, 30).  At an address
where the map has no program memory, only data memory, a peripheral or nothing, there is no packet: the fetch is unmapped
(20_memory.md R141, R143; the fault is D25, log 6). -/
def Obligations.StepRunsAWholePacket : Prop :=
  (∀ (s : State) (ws : List Word),
    s.envNow.reset = false → s.held = false → s.fetchPacket = .ok ws →
      (∀ is : List Instr, decodeAll ws = .ok is →
        (packetError is = none → step s = match runPacket is s.takeEnv with
          | .next t => t.endCycle (some is.length)
          | .fault f => .fault f
          | .refused r => .refused r)
        ∧ (∀ e, packetError is = some e → step s = .refused (.illegalPacket e)))
      ∧ (∀ (before after : List Word) (w : Word) (e : DecodeError), ws = before ++ w :: after →
        (∀ v ∈ before, ∃ i, decode v = .ok i) → decode w = .error e → step s = .refused (.illegalWord e)))
  ∧ (∀ s : State, s.envNow.reset = false → s.held = false → s.pc.toNat % 4 = 0 →
    (∀ r ∈ s.launch.map, r.base ≤ s.pc.toNat → s.pc.toNat < r.base + r.size →
      r.space = .data ∨ r.space = .peripheral) →
    step s = .fault .unmappedAccess)

/-- The packet at pc is the run of words up to the first with p = 0, wherever in the fetch packet pc points; a last word
with p = 1 has no packet (30_encoding.md R206, R207, R208; that it is refused is D34, log 30). -/
def Obligations.PacketEndsAtTheFirstClearPBit : Prop :=
  ∀ (s : State) (w : Nat → Word) (k : Nat),
    s.pc.toNat % 4 = 0 → s.pc.toNat % 32 / 4 + k ≤ 7 →
    (∀ j ≤ k, s.fetchWord (s.pc + BitVec.ofNat 32 (4 * j)) = .ok (w j)) → (∀ j < k, (w j).getLsbD 0 = true) →
      ((w k).getLsbD 0 = false → s.fetchPacket = .ok ((List.range (k + 1)).map w))
      ∧ ((w k).getLsbD 0 = true → s.pc.toNat % 32 / 4 + k = 7 →
        s.fetchPacket = .error (.refused (.illegalPacket .crossesFetchPacket)))

/-- Two instructions of a packet may not use one unit, one cross path, one data path, one file's port for long results or
for long sources, nor a long source beside a store from its file, wherever they stand in the packet; and at most four of a
packet's source fields may name one register (70_reset_and_hazards.md R810, R812, R822, R824 (a), (b), (c), R826).  A
packet that keeps to all of these is legal, whatever else its instructions share (R828).  That an illegal packet is refused
is D22, that (c) looks at one file only D40 (log 30). -/
def Obligations.SharedResourcesMakeAPacketIllegal : Prop :=
  let share (use : Instr → Option Side) (i j : Instr) : Prop := use i ≠ none ∧ use i = use j
  let clash (i j : Instr) : Prop :=
    i.use.unit ≠ none ∧ i.use.unit = j.use.unit
    ∨ share (·.use.cross) i j ∨ share (·.use.dataPath) i j
    ∨ share (·.use.longResult) i j ∨ share (·.use.longSource) i j
    ∨ i.use.longSource ≠ none ∧ i.use.longSource = j.use.storeFile
    ∨ j.use.longSource ≠ none ∧ j.use.longSource = i.use.storeFile
  let readsOf (packet : List Instr) (r : Side × BitVec 5) : Nat := (packet.map (fun i => i.use.reads.count r)).sum
  (∀ (before between after : List Instr) (i j : Instr),
    let packet := before ++ i :: between ++ j :: after
    (clash i j → packetError packet ≠ none)
    ∧ (i.use.unit ≠ none → i.use.unit = j.use.unit → packetError packet = some .unitTwice))
  ∧ (∀ (packet : List Instr) (r : Side × BitVec 5), 4 < readsOf packet r → packetError packet ≠ none)
  ∧ (∀ packet : List Instr, packet.Pairwise (fun i j => ¬ clash i j) → (∀ r, readsOf packet r ≤ 4) →
    packetError packet = none)

/-! ## What an instruction in E1 may change -/

/-- An instruction in E1 only adds effects: no register, no control register, no byte of memory, no piece of in-flight
state changes before the end of the cycle; and the effects are such as a packet can have (70_reset_and_hazards.md R801,
R802, R804 step B). -/
def Obligations.ExecOnlyAddsEffects : Prop :=
  ∀ (i : Instr) (s t : State), exec i s = .next t →
    AddsEffects s t ∧ (∀ a, t.mem.read a = s.mem.read a) ∧ (s.e1.Ok → t.e1.Ok)

/-- Only the stores store, only MVC, B IRP and B NRP write control registers, only the saturating instructions ask for
SAT, only the branches branch (10_state.md R58, R59, 43_load_store.md R550, 44_branch.md R604, R606). -/
def Obligations.OnlyTheNamedInstructionsHaveTheEffect : Prop :=
  ∀ (i : Instr) (s t : State), exec i s = .next t →
    (i.use.storeFile = none → t.e1.stores = s.e1.stores)
    ∧ (i.writesControl = false → t.e1.ctrl = s.e1.ctrl)
    ∧ (i.maySetSat = false → t.e1.sat = s.e1.sat)
    ∧ (i.isBranch = false → t.e1.branch = s.e1.branch ∧ t.e1.branchSeen = s.e1.branchSeen)
    ∧ (i.isBranch = true → t.e1.branchSeen = true)

/-- The instructions of a packet read the state at the start of the cycle: what one of them adds does not depend on what
the others have added (70_reset_and_hazards.md R801). -/
def Obligations.PacketReadsTheStartOfTheCycle : Prop :=
  ∀ (i : Instr) (s t u v : State), u = { s with e1 := u.e1 } → exec i s = .next t → exec i u = .next v →
    t.freeIdx = v.freeIdx
    ∧ (∃ d, t.e1.regs = s.e1.regs ++ d ∧ v.e1.regs = u.e1.regs ++ d)
    ∧ (∃ d, t.e1.late = s.e1.late ++ d ∧ v.e1.late = u.e1.late ++ d)
    ∧ (∃ d, t.e1.stores = s.e1.stores ++ d ∧ v.e1.stores = u.e1.stores ++ d)
    ∧ (∃ d, t.e1.sat = s.e1.sat ++ d ∧ v.e1.sat = u.e1.sat ++ d)
    ∧ (∃ d, t.e1.ctrl = s.e1.ctrl ++ d ∧ v.e1.ctrl = u.e1.ctrl ++ d)
    ∧ (t.e1.branch = s.e1.branch ∧ v.e1.branch = u.e1.branch ∨ t.e1.branch ≠ none ∧ t.e1.branch = v.e1.branch)

/-- With a false condition, as bits 31 to 28 of its word give it, an instruction does nothing at all, but that a branch
still counts as one (30_encoding.md R212, R213, 70_reset_and_hazards.md R806, 44_branch.md R604). -/
def Obligations.FalseConditionRemovesTheInstruction : Prop :=
  ∀ (i : Instr) (c : Cond) (s : State), wordCond (encode i) = .ok c → s.holds c = false →
    exec i s = .next (if i.isBranch then { s with e1 := { s.e1 with branchSeen := true } } else s)

/-- In a held cycle (interrupt entry, power-down, multicycle NOP, IDLE) no packet enters E1: a next state has the memory
of before, and differs in a register only where a result in flight was due (60_exceptions.md R737, R761, 45_move_control.md
R652, R655, 70_reset_and_hazards.md R803). -/
def Obligations.HeldCycleIssuesNothing : Prop :=
  ∀ s t : State, s.e1 = {} → s.envNow.reset = false →
    (s.intHold ≠ 0 ∨ s.power ≠ .none ∨ s.hold ≠ .count 0) → step s = .next t →
      (∀ a, t.mem.read a = s.mem.read a) ∧ (∀ a, t.prog.read a = s.prog.read a)
      ∧ (∀ side r, (∀ p ∈ s.pendingRegs, p.left ≤ 1 → ¬ (p.write.side = side ∧ p.write.reg = r)) →
        (t.file side).read r = (s.file side).read r)
      ∧ (∀ q ∈ t.pendingRegs, ∃ p ∈ s.pendingRegs, q.write = p.write ∧ q.left + 1 = p.left)
      ∧ (∀ q ∈ t.pendingBranches, ∃ p ∈ s.pendingBranches, q.target = p.target ∧ q.left + 1 = p.left)
      ∧ t.amr = s.amr ∧ t.istb = s.istb

/-! ## The end of a cycle -/

/-- At the end of a cycle the registers take the zero-delay results of the packet and the results in flight that are due,
and keep their value otherwise (70_reset_and_hazards.md R803, R804 D.1). -/
def Obligations.RegistersAtTheEndOfACycle : Prop :=
  ∀ (s t : State) (n : Option Nat), s.endCycle n = .next t →
    let lands (w : RegWrite) : Prop := w ∈ s.e1.regs ∨ ∃ p ∈ s.pendingRegs, p.left ≤ 1 ∧ p.write = w
    (∀ w, lands w → (t.file w.side).read w.reg = w.value)
    ∧ (∀ side r, (∀ w, lands w → ¬ (w.side = side ∧ w.reg = r)) → (t.file side).read r = (s.file side).read r)

/-- Two writes of one register due in one cycle are a fault, equal values or not, and nothing else is that fault
(70_reset_and_hazards.md R820; the fault is D21, log 26). -/
def Obligations.TwoWritesToOneRegisterAreAFault : Prop :=
  ∀ (s : State) (n : Option Nat), s.endCycle n = .fault .writeConflict ↔
    ∃ (i j : Nat) (x y : RegWrite), i < j ∧ x.side = y.side ∧ x.reg = y.reg
      ∧ (((s.pendingRegs.filter (fun p => decide (p.left ≤ 1))).map LateWrite.write) ++ s.e1.regs)[i]? = some x
      ∧ (((s.pendingRegs.filter (fun p => decide (p.left ≤ 1))).map LateWrite.write) ++ s.e1.regs)[j]? = some y

/-- A result in flight lands exactly when its delay slots are over, whatever happens meanwhile but Reset.  Its register
holds it at the end of that cycle.  Before that it stays in flight, one cycle nearer for each cycle; and a register that
no packet of the cycles meanwhile writes, now or later, and for which nothing in flight is due yet, keeps its value.  A
delayed result of the packet in E1 joins with its full count (70_reset_and_hazards.md R803; the counting is log 36). -/
def Obligations.DelayedResultLands : Prop :=
  (∀ (s t : State) (p : LateWrite), p ∈ s.pendingRegs → 1 ≤ p.left → s.noReset p.left → run p.left s = .next t →
    (t.file p.write.side).read p.write.reg = p.write.value)
  ∧ (∀ (s t : State) (p : LateWrite) (k : Nat), p ∈ s.pendingRegs → k < p.left → s.noReset k → run k s = .next t →
    { p with left := p.left - k } ∈ t.pendingRegs)
  ∧ (∀ (s t : State) (side : Side) (r : BitVec 4) (k : Nat), s.e1 = {} → s.noReset k →
    (∀ p ∈ s.pendingRegs, p.write.side = side → p.write.reg = r → k < p.left) →
    (∀ j < k, ∀ (u v : State) (is : List Instr), run j s = .next u → u.held = false → u.takeEnv.packet = .ok is →
      runPacket is u.takeEnv = .next v →
        ∀ w ∈ v.e1.regs ++ v.e1.late.map LateWrite.write, ¬ (w.side = side ∧ w.reg = r)) →
    run k s = .next t → (t.file side).read r = (s.file side).read r)
  ∧ (∀ (s t : State) (n : Option Nat), s.endCycle n = .next t → ∀ p ∈ s.e1.late, p ∈ t.pendingRegs)

/-- At the end of a cycle memory takes the bytes the packet stored and keeps every other byte; program memory is kept
(20_memory.md R141, R180, R181, R182). -/
def Obligations.MemoryAtTheEndOfACycle : Prop :=
  ∀ (s t : State) (n : Option Nat), s.endCycle n = .next t →
    (∀ a, (∀ c ∈ s.e1.stores, c.1 ≠ a) → t.mem.read a = s.mem.read a)
    ∧ (∀ c ∈ s.e1.stores, (∀ d ∈ s.e1.stores, d.1 = c.1 → d = c) → t.mem.read c.1 = some c.2)
    ∧ (∀ a, t.prog.read a = s.prog.read a)

/-- What each control-register write leaves at the end of its cycle when no interrupt is taken (45_move_control.md R631,
10_state.md R62, R64, R70, R72, R73, 44_branch.md R615, R620, 60_exceptions.md R761). -/
def Obligations.ControlWritesTakeEffect : Prop :=
  ∀ (s t : State) (n : Option Nat) (v : Word) (sat : Bool), s.endCycle n = .next t → s.decision = none →
    (s.e1.ctrl = [.amr v] → t.amr.toNat = v.toNat % 2 ^ 26)
    ∧ (s.e1.ctrl = [.csr v sat] → s.power = .none → (∀ k ∈ s.pendingSat, 1 < k) →
      (∀ k < 32, t.csr.getLsbD k =
        if k < 8 ∨ (10 ≤ k ∧ k < 16) then v.getLsbD k else if k = 9 then sat else s.csr.getLsbD k)
      ∧ (v.toNat / 2 ^ 10 % 2 ^ 6 = 0 → t.power = .none)
      ∧ (v.toNat / 2 ^ 10 % 2 ^ 6 = 0x09 → t.power = .pd1Enabled)
      ∧ (v.toNat / 2 ^ 10 % 2 ^ 6 = 0x11 → t.power = .pd1Any)
      ∧ (v.toNat / 2 ^ 10 % 2 ^ 6 = 0x1A → t.power = .pd2)
      ∧ (v.toNat / 2 ^ 10 % 2 ^ 6 = 0x1C → t.power = .pd3))
    ∧ (s.e1.ctrl = [.isr v] → t.pendingIfr.clear = 0
      ∧ ∀ m < 16, t.pendingIfr.set.getLsbD m = (v.getLsbD m && decide (4 ≤ m)))
    ∧ (s.e1.ctrl = [.icr v] → t.pendingIfr.set = 0
      ∧ ∀ m < 16, t.pendingIfr.clear.getLsbD m = (v.getLsbD m && decide (4 ≤ m)))
    ∧ (s.e1.ctrl = [.ier v] → ∀ k < 32, t.ier.getLsbD k =
      if 4 ≤ k ∧ k < 16 then v.getLsbD k else if k = 1 then s.nmie || v.getLsbD 1 else s.ier.getLsbD k)
    ∧ (s.e1.ctrl = [.istp v] → t.istb.toNat = v.toNat / 1024)
    ∧ (s.e1.ctrl = [.irp v] → t.irp = v)
    ∧ (s.e1.ctrl = [.nrp v] → t.nrp = v)
    ∧ (s.e1.ctrl = [.returnIrp] → t.gie = s.pgie ∧ t.pgie = s.pgie)
    ∧ (s.e1.ctrl = [.returnNrp] → t.nmie = true ∧ t.gie = s.gie ∧ t.pgie = s.pgie)

/-- A control register that no instruction of the packet writes and that no interrupt entry, SAT falling due or wake-up
changes keeps its value (10_state.md R59, R68, R74, 60_exceptions.md R730). -/
def Obligations.ControlRegistersAreKept : Prop :=
  ∀ (s t : State) (n : Option Nat), s.endCycle n = .next t →
    ((∀ v, .amr v ∉ s.e1.ctrl) → t.amr = s.amr)
    ∧ ((∀ v, .istp v ∉ s.e1.ctrl) → t.istb = s.istb)
    ∧ ((∀ v, .irp v ∉ s.e1.ctrl) → (s.decision = none ∨ s.decision = some 1) → t.irp = s.irp)
    ∧ ((∀ v, .nrp v ∉ s.e1.ctrl) → s.decision ≠ some 1 → t.nrp = s.nrp)
    ∧ ((∀ v, .ier v ∉ s.e1.ctrl) → .returnNrp ∉ s.e1.ctrl → s.decision ≠ some 1 → t.ier = s.ier)
    ∧ ((∀ v b, .csr v b ∉ s.e1.ctrl) → .returnIrp ∉ s.e1.ctrl → (∀ k ∈ s.pendingSat, 1 < k) → s.wakes = false →
      (s.decision = none ∨ s.decision = some 1) → t.csr = s.csr)
    ∧ ((∀ v b, .csr v b ∉ s.e1.ctrl) → s.wakes = false → t.power = s.power)

/-- SAT: a set falling due beats a clear by MVC in the same cycle; without one SAT is what a write of CSR leaves, or as it
was; requests join with the cycles they were made for (10_state.md R65, 40_arith.md R301, 42_multiply.md R519). -/
def Obligations.SatIsSetByResultsAndClearedByMvc : Prop :=
  ∀ (s t : State) (n : Option Nat), s.endCycle n = .next t →
    ((∃ k ∈ s.pendingSat, k ≤ 1) → t.satBit = true)
    ∧ ((∀ k ∈ s.pendingSat, 1 < k) → (∀ v b, .csr v b ∉ s.e1.ctrl) → t.satBit = s.satBit)
    ∧ (∀ v b, (∀ k ∈ s.pendingSat, 1 < k) → s.e1.ctrl = [.csr v b] → t.satBit = b)
    ∧ (∀ k, k ∈ s.e1.sat ∨ 1 ≤ k ∧ k + 1 ∈ s.pendingSat → k ∈ t.pendingSat)

/-- The update of IFR, bit by bit: an arrival beats every clear, ISR beats ICR, the hardware clears the flag of the
interrupt being entered (60_exceptions.md R712, R735). -/
def Obligations.InterruptFlagUpdate : Prop :=
  ∀ (s t : State) (n : Option Nat) (m : Nat), s.endCycle n = .next t →
    let entered : Bool := decide (s.intHold = 6) && decide (s.entering.toNat = m)
    (4 ≤ m → m < 16 → t.ifr.getLsbD m =
      if s.intLatch.getLsbD m then true
      else if s.pendingIfr.set.getLsbD m then true
      else if s.pendingIfr.clear.getLsbD m || entered then false
      else s.ifr.getLsbD m)
    ∧ (m = 1 → s.pendingIfr.set.getLsbD 1 = false → s.pendingIfr.clear.getLsbD 1 = false → t.ifr.getLsbD 1 =
      if s.intLatch.getLsbD 1 then true else if entered then false else s.ifr.getLsbD 1)
    ∧ t.intLatch = 0

/-- When an interrupt is taken, and which: enabled at the start of the cycle, pending as its end leaves IFR, no branch in
this cycle or the four before, the lowest number first (60_exceptions.md R704, R722, R723, R761; the points left open are
D15, log 32). -/
def Obligations.InterruptIsTakenExactlyWhen : Prop :=
  ∀ (s : State) (m : BitVec 4), s.decision = some m ↔
    s.intHold = 0 ∧ (s.power = .none ∨ s.wakes = true)
    ∧ s.e1.branchSeen = false ∧ s.branchShadow ≤ 1
    ∧ s.nmie = true ∧ (m = 1 ∨ s.gie = true)
    ∧ (m.toNat = 1 ∨ 4 ≤ m.toNat)
    ∧ s.nextIfr.getLsbD m.toNat = true ∧ s.ier.getLsbD m.toNat = true
    ∧ ∀ k < m.toNat, k = 1 ∨ 4 ≤ k → (s.nextIfr.getLsbD k && s.ier.getLsbD k) = false

/-- Interrupt entry: the return pointer is the first packet not executed, the enables of the kind of interrupt change,
seven cycles without issue begin, and the program pointer goes to the entry in the service table
(60_exceptions.md R724, R730, R731, R733, R737, R738). -/
def Obligations.InterruptEntrySavesAndRedirects : Prop :=
  ∀ (s t u : State) (n : Option Nat) (m : BitVec 4),
    s.endCycle n = .next t → s.decision = some m → s.advancePc n = .ok u →
      t.hold = .count 0 ∧ t.intHold = 7 ∧ t.entering = m
      ∧ (s.e1.ctrl = [] →
        t.pc.toNat = s.istb.toNat * 1024 + m.toNat * 32 ∧ t.amr = s.amr ∧ t.istb = s.istb
        ∧ (m ≠ 1 → t.irp = u.pc ∧ t.nrp = s.nrp ∧ t.ier = s.ier ∧ t.pgie = s.gie ∧ t.gie = false)
        ∧ (m = 1 → t.nrp = u.pc ∧ t.irp = s.irp ∧ t.gie = s.gie ∧ t.pgie = s.pgie
          ∧ ∀ k < 32, t.ier.getLsbD k = (s.ier.getLsbD k && !decide (k = 1))))
      ∧ (∀ v b, s.e1.ctrl = [.csr v b] → s.power = .none → m ≠ 1 →
        t.irp = u.pc ∧ t.pgie = v.getLsbD 0 ∧ t.gie = false)

/-- The seven cycles of interrupt entry: nothing is issued, the program pointer waits at the entry of the service table,
and in the second cycle IACK is driven with the number of the interrupt (60_exceptions.md R735, R736, R737). -/
def Obligations.InterruptEntryLastsSevenCycles : Prop :=
  (∀ s t : State, s.intHold = 7 → s.pendingBranches = [] → s.e1 = {} → s.noReset 7 → run 7 s = .next t →
    t.intHold = 0 ∧ t.pc = s.pc ∧ ∀ a, t.mem.read a = s.mem.read a)
  ∧ (∀ s t : State, s.envNow.reset = false → s.intHold ≠ 0 → step s = .next t →
    t.intHold + 1 = s.intHold ∧ t.iack = decide (s.intHold = 6) ∧ t.inum = if s.intHold = 6 then s.entering else 0)

/-- A taken branch reaches its target after five delay slots, whatever the packets in them do and whatever other branches
are in flight, as long as no two are due in one cycle (the invariant of StepKeepsInvariant): each pending branch with k
cycles left has set the program pointer after k cycles, or, if an interrupt is taken in the last of them, the return
pointer; a branch taken in E1 joins with five cycles left (44_branch.md R601, R602 (b), R603, 60_exceptions.md R733). -/
def Obligations.BranchLandsAfterFiveDelaySlots : Prop :=
  (∀ (s t : State) (p : PendingBranch), p ∈ s.pendingBranches → (∀ q ∈ s.pendingBranches, 1 ≤ q.left) →
    s.pendingBranches.Pairwise (fun q r => q.left ≠ r.left) → p.left ≤ 5 → s.noReset p.left → run p.left s = .next t →
      t.hold = .count 0
      ∧ (t.pc = p.target ∨ t.intHold = 7 ∧ (t.irp = p.target ∧ t.entering ≠ 1 ∨ t.nrp = p.target ∧ t.entering = 1)))
  ∧ (∀ (s t : State) (n : Option Nat) (a : Word), s.endCycle n = .next t → s.e1.branch = some a →
    { target := a, left := 5 } ∈ t.pendingBranches)
  ∧ (∀ (s t : State) (n : Option Nat), s.endCycle n = .next t → s.e1.branchSeen = true → t.branchShadow = 5)

/-- The program pointer without a branch or interrupt: past the packet that issued, or held; a packet that would run past
FFFF FFFFh is a fault (10_state.md R52, R54, 45_move_control.md R652, R655; the fault is D13, log 22). -/
def Obligations.ProgramPointerAdvances : Prop :=
  (∀ (s t : State) (n : Nat), s.endCycle (some n) = .next t → s.decision = none →
    (∀ p ∈ s.pendingBranches, 1 < p.left) → t.pc.toNat = s.pc.toNat + 4 * n ∧ t.hold = s.e1.hold)
  ∧ (∀ s t : State, s.endCycle none = .next t → s.decision = none → (∀ p ∈ s.pendingBranches, 1 < p.left) →
    t.pc = s.pc ∧ (s.hold = .idle → t.hold = .idle) ∧ (∀ k, s.hold = .count k → t.hold = .count (k - 1)))
  ∧ (∀ (s : State) (n : Nat), (∀ p ∈ s.pendingBranches, 1 < p.left) → s.endCycle (some n) ≠ .fault .writeConflict →
    2 ^ 32 ≤ s.pc.toNat + 4 * n → s.endCycle (some n) = .fault .pcWrap)

/-- A powered-down CPU wakes as its mode says and not otherwise, and PWRD then reads as it was or as 0; when the interrupt
that wakes it is taken at once, that holds too, and the return pointer is the program pointer that was held
(60_exceptions.md R761; which of the two PWRD reads as is free, U12, log 16). -/
def Obligations.PowerDownEndsAsItsModeSays : Prop :=
  (∀ (s t : State) (n : Option Nat), s.endCycle n = .next t → s.e1 = {} → s.pendingSat = [] → s.decision = none →
    let enabled : Prop := ∃ m < 16, (m = 1 ∨ 4 ≤ m) ∧ s.nextIfr.getLsbD m = true ∧ s.ier.getLsbD m = true
    let pending : Prop := ∃ m < 16, (m = 1 ∨ 4 ≤ m) ∧ s.nextIfr.getLsbD m = true
    let awake : Prop := t.power = .none ∧ (t.csr = s.csr
      ∨ ∀ k < 32, t.csr.getLsbD k = (s.csr.getLsbD k && !(decide (10 ≤ k) && decide (k < 16))))
    let asleep : Prop := t.power = s.power ∧ t.csr = s.csr
    (s.power = .pd1Enabled → enabled → awake) ∧ (s.power = .pd1Enabled → ¬ enabled → asleep)
    ∧ (s.power = .pd1Any → pending → awake) ∧ (s.power = .pd1Any → ¬ pending → asleep)
    ∧ (s.power = .pd2 → asleep) ∧ (s.power = .pd3 → asleep))
  ∧ (∀ (s t : State) (n : Option Nat) (m : BitVec 4), s.endCycle n = .next t → s.e1 = {} → s.power ≠ .none →
    s.decision = some m →
      (s.power = .pd1Enabled ∨ s.power = .pd1Any) ∧ t.power = .none ∧ t.intHold = 7 ∧ t.entering = m
      ∧ ((∀ k, 10 ≤ k → k < 16 → t.csr.getLsbD k = s.csr.getLsbD k)
        ∨ ∀ k, 10 ≤ k → k < 16 → t.csr.getLsbD k = false)
      ∧ (n = none → (∀ p ∈ s.pendingBranches, 1 < p.left) → (m ≠ 1 → t.irp = s.pc) ∧ (m = 1 → t.nrp = s.pc)))

/-- An idle or powered-down CPU with nothing in flight, nothing arriving and no interrupt it can take or wake for stays as
it is for ever (70_reset_and_hazards.md R861 (a), 45_move_control.md R655, 60_exceptions.md R761). -/
def Obligations.QuiescentCpuStaysAsItIs : Prop :=
  ∀ s : State, s.quiescent → s.e1 = {} → s.env = [] → s.intLatch = 0 → s.branchShadow = 0 → s.intHold = 0 →
    (s.hold = .idle ∨ s.hold = .count 0) → s.decision = none → s.wakes = false →
      ∀ k : Nat, ∃ t : State, run k s = .next t ∧ t = { s with iack := t.iack, inum := t.inum }

/-- No cycle changes the launch record or program memory, nor the read-only fields REVISION ID and EN of CSR, and CPU ID
stays 0; NMIE goes from 1 to 0 by Reset or by taking an NMI alone (10_state.md R64, R72, 20_memory.md R150, R153,
60_exceptions.md R717). -/
def Obligations.WhatNoInstructionChanges : Prop :=
  ∀ s t : State, step s = .next t →
    t.launch = s.launch ∧ (∀ a, t.prog.read a = s.prog.read a)
    ∧ t.littleEndian = s.littleEndian
    ∧ t.csr.toNat / 2 ^ 16 % 2 ^ 8 = s.csr.toNat / 2 ^ 16 % 2 ^ 8
    ∧ (s.csr.toNat / 2 ^ 24 = 0 → t.csr.toNat / 2 ^ 24 = 0)
    ∧ (s.nmie = true → t.nmie = false → s.envNow.reset = true ∨ t.intHold = 7 ∧ t.entering = 1)

/-! ## One instruction alone, through a whole step -/

/-- In a quiet state a lone instruction whose effects are register writes and stores changes those registers and those
bytes, moves the program pointer past its word, and changes nothing else (70_reset_and_hazards.md R801, R802, R804). -/
def Obligations.LoneInstructionChangesOnlyItsResults : Prop :=
  ∀ (s u : State) (w : Word) (i : Instr) (regs : List RegWrite) (cells : List Host.Cell),
    s.Quiet → s.pc.toNat % 4 = 0 → s.pc.toNat + 4 < 2 ^ 32 → s.fetchWord s.pc = .ok w → w.getLsbD 0 = false →
    decode w = .ok i → exec i s = .next u → u.e1 = { regs := regs, stores := cells } →
    regs.Pairwise (fun x y => ¬ (x.side = y.side ∧ x.reg = y.reg)) → cells.Pairwise (fun c d => c.1 ≠ d.1) →
      ∃ t : State, step s = .next t
        ∧ t = { s with a := t.a, b := t.b, mem := t.mem, pc := s.pc + 4, freeIdx := u.freeIdx }
        ∧ (∀ x ∈ regs, (t.file x.side).read x.reg = x.value)
        ∧ (∀ side r, (∀ x ∈ regs, ¬ (x.side = side ∧ x.reg = r)) → (t.file side).read r = (s.file side).read r)
        ∧ (∀ c ∈ cells, t.mem.read c.1 = some c.2)
        ∧ (∀ a, (∀ c ∈ cells, c.1 ≠ a) → t.mem.read a = s.mem.read a)

/-- A store through a whole step: in a quiet state STB, STH or STW at pc, its condition true, puts the low bytes of its
data register at its address in the byte order, changes its base register where the mode says so, and leaves every other
byte and every other register as it was; the forms with a 15-bit offset do the same at their address and change no register
(43_load_store.md R553, R554, R560 to R563, R570, R576 to R578, 20_memory.md R150, R151, R180). -/
def Obligations.StoreStepChangesItsBytesAndBaseOnly : Prop :=
  (∀ (s : State) (w : Word) (o : OpsMem) (k n : Nat) (i : Instr),
    (i = .stb o ∧ k = 0 ∧ n = 1 ∨ i = .sth o ∧ k = 1 ∧ n = 2 ∨ i = .stw o ∧ k = 2 ∧ n = 4) →
    s.Quiet → s.pc.toNat % 4 = 0 → s.pc.toNat + 4 < 2 ^ 32 → s.fetchWord s.pc = .ok w → w.getLsbD 0 = false →
    decode w = .ok i → s.holds o.cond = true → s.addrMode o.unit o.base ≠ 3 → s.accessAddress o k % n = 0 →
    s.storable (s.accessAddress o k) n →
      ∃ t : State, step s = .next t
        ∧ t = { s with a := t.a, b := t.b, mem := t.mem, pc := s.pc + 4 }
        ∧ (∀ j < n, t.mem.read (s.accessAddress o k + j)
          = some (BitVec.ofNat 8 ((s.reg o.side o.data).toNat / byteWeight s.littleEndian n j)))
        ∧ (∀ a, (∀ j < n, s.accessAddress o k + j ≠ a) → t.mem.read a = s.mem.read a)
        ∧ (∀ side r, ¬ (o.mode.modifies = true ∧ side = o.unit ∧ r = o.base.setWidth 4) →
          (t.file side).read r = (s.file side).read r)
        ∧ (o.mode.modifies = true → t.reg o.unit o.base = BitVec.ofInt 32 (s.baseAfter o k)))
  ∧ (∀ (s : State) (w : Word) (o : OpsMem15) (k n : Nat) (i : Instr),
    (i = .stb15 o ∧ k = 0 ∧ n = 1 ∨ i = .sth15 o ∧ k = 1 ∧ n = 2 ∨ i = .stw15 o ∧ k = 2 ∧ n = 4) →
    s.Quiet → s.pc.toNat % 4 = 0 → s.pc.toNat + 4 < 2 ^ 32 → s.fetchWord s.pc = .ok w → w.getLsbD 0 = false →
    decode w = .ok i → s.holds o.cond = true → s.accessAddress15 o k % n = 0 → s.storable (s.accessAddress15 o k) n →
      ∃ t : State, step s = .next t
        ∧ t = { s with mem := t.mem, pc := s.pc + 4 }
        ∧ (∀ j < n, t.mem.read (s.accessAddress15 o k + j)
          = some (BitVec.ofNat 8 ((s.reg o.side o.data).toNat / byteWeight s.littleEndian n j)))
        ∧ (∀ a, (∀ j < n, s.accessAddress15 o k + j ≠ a) → t.mem.read a = s.mem.read a))

/-! ## What each instruction does

Each equation says what `exec` answers and so also the frame: the state named differs from `s` in the effects of E1
alone, and in nothing else. -/

/-- 32-bit additions and subtractions wrap (40_arith.md R305, R306, R310, R315, R360, R365, R370): on .D the src2 field
holds the minuend and the constant is unsigned. -/
def Obligations.AddAndSubtractThirtyTwoBits : Prop :=
  ∀ s : State,
    (∀ o : Ops3, exec (.addL o) s = s.ifHolds o.cond (s.sets o.side o.dst
      ((s.reg o.side o.src1).toInt + (s.reg (o.side.cross o.x) o.src2).toInt)))
    ∧ (∀ o : Ops3, exec (.addLCst o) s = s.ifHolds o.cond (s.sets o.side o.dst
      (o.src1.toInt + (s.reg (o.side.cross o.x) o.src2).toInt)))
    ∧ (∀ o : Ops3, exec (.addS o) s = s.ifHolds o.cond (s.sets o.side o.dst
      ((s.reg o.side o.src1).toInt + (s.reg (o.side.cross o.x) o.src2).toInt)))
    ∧ (∀ o : Ops3, exec (.addSCst o) s = s.ifHolds o.cond (s.sets o.side o.dst
      (o.src1.toInt + (s.reg (o.side.cross o.x) o.src2).toInt)))
    ∧ (∀ o : OpsD, exec (.addD o) s = s.ifHolds o.cond (s.sets o.side o.dst
      ((s.reg o.side o.src2).toInt + (s.reg o.side o.src1).toInt)))
    ∧ (∀ o : OpsD, exec (.addDCst o) s = s.ifHolds o.cond (s.sets o.side o.dst
      ((s.reg o.side o.src2).toInt + o.src1.toNat)))
    ∧ (∀ o : OpsK, exec (.addk o) s = s.ifHolds o.cond (s.sets o.side o.dst
      ((s.reg o.side o.dst).toInt + o.cst.toInt)))
    ∧ (∀ o : Ops3, exec (.subL o) s = s.ifHolds o.cond (s.sets o.side o.dst
      ((s.reg o.side o.src1).toInt - (s.reg (o.side.cross o.x) o.src2).toInt)))
    ∧ (∀ o : Ops3, exec (.subLX o) s = s.ifHolds o.cond (s.sets o.side o.dst
      ((s.reg (o.side.cross o.x) o.src1).toInt - (s.reg o.side o.src2).toInt)))
    ∧ (∀ o : Ops3, exec (.subLCst o) s = s.ifHolds o.cond (s.sets o.side o.dst
      (o.src1.toInt - (s.reg (o.side.cross o.x) o.src2).toInt)))
    ∧ (∀ o : Ops3, exec (.subS o) s = s.ifHolds o.cond (s.sets o.side o.dst
      ((s.reg o.side o.src1).toInt - (s.reg (o.side.cross o.x) o.src2).toInt)))
    ∧ (∀ o : Ops3, exec (.subSCst o) s = s.ifHolds o.cond (s.sets o.side o.dst
      (o.src1.toInt - (s.reg (o.side.cross o.x) o.src2).toInt)))
    ∧ (∀ o : OpsD, exec (.subD o) s = s.ifHolds o.cond (s.sets o.side o.dst
      ((s.reg o.side o.src2).toInt - (s.reg o.side o.src1).toInt)))
    ∧ (∀ o : OpsD, exec (.subDCst o) s = s.ifHolds o.cond (s.sets o.side o.dst
      ((s.reg o.side o.src2).toInt - o.src1.toNat)))

/-- 40-bit additions and subtractions: signed operands are sign-extended, unsigned ones zero-extended, the result is cut
to 40 bits and fills a register pair (40_arith.md R300, R305, R335, R360, R380). -/
def Obligations.AddAndSubtractFortyBits : Prop :=
  ∀ (s : State) (o : Ops3),
    exec (.addLToLong o) s = s.ifHolds o.cond (s.setsPair o.side o.dst
      ((s.reg o.side o.src1).toInt + (s.reg (o.side.cross o.x) o.src2).toInt))
    ∧ exec (.addLLong o) s = s.ifHolds o.cond (s.setsPair o.side o.dst
      ((s.reg (o.side.cross o.x) o.src1).toInt + (s.long o.side o.src2).toInt))
    ∧ exec (.addLCstLong o) s = s.ifHolds o.cond (s.setsPair o.side o.dst
      (o.src1.toInt + (s.long o.side o.src2).toInt))
    ∧ exec (.addu o) s = s.ifHolds o.cond (s.setsPair o.side o.dst
      (((s.reg o.side o.src1).toNat + (s.reg (o.side.cross o.x) o.src2).toNat : Nat)))
    ∧ exec (.adduLong o) s = s.ifHolds o.cond (s.setsPair o.side o.dst
      (((s.reg (o.side.cross o.x) o.src1).toNat + (s.long o.side o.src2).toNat : Nat)))
    ∧ exec (.subLToLong o) s = s.ifHolds o.cond (s.setsPair o.side o.dst
      ((s.reg o.side o.src1).toInt - (s.reg (o.side.cross o.x) o.src2).toInt))
    ∧ exec (.subLXToLong o) s = s.ifHolds o.cond (s.setsPair o.side o.dst
      ((s.reg (o.side.cross o.x) o.src1).toInt - (s.reg o.side o.src2).toInt))
    ∧ exec (.subLCstLong o) s = s.ifHolds o.cond (s.setsPair o.side o.dst
      (o.src1.toInt - (s.long o.side o.src2).toInt))
    ∧ exec (.subu o) s = s.ifHolds o.cond (s.setsPair o.side o.dst
      (((s.reg o.side o.src1).toNat : Int) - (s.reg (o.side.cross o.x) o.src2).toNat))
    ∧ exec (.subuX o) s = s.ifHolds o.cond (s.setsPair o.side o.dst
      (((s.reg (o.side.cross o.x) o.src1).toNat : Int) - (s.reg o.side o.src2).toNat))

/-- ADD2 and SUB2 work on the two halves apart, no carry or borrow between them (40_arith.md R340, R390); SUBC is one
step of an unsigned division (R375; the unsigned reading is D36, log 17). -/
def Obligations.HalfwordArithmeticAndDivisionStep : Prop :=
  ∀ (s : State) (o : Ops3),
    let a := (s.reg o.side o.src1).toNat
    let b := (s.reg (o.side.cross o.x) o.src2).toNat
    exec (.add2 o) s = s.ifHolds o.cond (s.sets o.side o.dst
      (halves (a / 2 ^ 16 + b / 2 ^ 16) (a % 2 ^ 16 + b % 2 ^ 16)))
    ∧ exec (.sub2 o) s = s.ifHolds o.cond (s.sets o.side o.dst
      (halves (a / 2 ^ 16 + 2 ^ 16 - b / 2 ^ 16) (a % 2 ^ 16 + 2 ^ 16 - b % 2 ^ 16)))
    ∧ exec (.subc o) s = s.ifHolds o.cond (s.sets o.side o.dst
      (if b ≤ a then ((a - b) * 2 + 1 : Nat) else (a * 2 : Nat)))

/-- ADDAB to SUBAW: src2 plus or minus src1 scaled by the width, in the mode of the src2 register; in the reserved mode 3
a fault (40_arith.md R319 to R325; the fault is D41, log 27). -/
def Obligations.AddressArithmetic : Prop :=
  ∀ (s : State) (o : OpsD),
    let r : Int := (s.reg o.side o.src1).toNat
    let c : Int := o.src1.toNat
    let does (i : Instr) (off : Int) : Prop :=
      (s.addrMode o.side o.src2 ≠ 3 →
        exec i s = s.ifHolds o.cond (s.sets o.side o.dst (s.addressOf o.side o.src2 off)))
      ∧ (s.addrMode o.side o.src2 = 3 →
        exec i s = if s.holds o.cond then .fault .reservedAddressingMode else .next s)
    does (.addab o) r ∧ does (.addabCst o) c ∧ does (.subab o) (-r) ∧ does (.subabCst o) (-c)
      ∧ does (.addah o) (r * 2) ∧ does (.addahCst o) (c * 2) ∧ does (.subah o) (-(r * 2)) ∧ does (.subahCst o) (-(c * 2))
      ∧ does (.addaw o) (r * 4) ∧ does (.addawCst o) (c * 4) ∧ does (.subaw o) (-(r * 4)) ∧ does (.subawCst o) (-(c * 4))

/-- AND, OR, XOR bit by bit; a constant is sign-extended, so that its bit 4 stands for all above
(41_logic_shift_bitfield.md R405, R408, R411). -/
def Obligations.LogicIsBitByBit : Prop :=
  ∀ (s : State) (o : Ops3),
    let r : Nat → Bool := fun k => (s.reg o.side o.src1).getLsbD k
    let c : Nat → Bool := fun k => o.src1.getLsbD (min k 4)
    let b : Nat → Bool := fun k => (s.reg (o.side.cross o.x) o.src2).getLsbD k
    let does (i : Instr) (f : Bool → Bool → Bool) (a : Nat → Bool) : Prop :=
      ∃ v : Word, exec i s = s.ifHolds o.cond (s.putReg o.side o.dst v) ∧ ∀ k < 32, v.getLsbD k = f (a k) (b k)
    does (.andL o) and r ∧ does (.andLCst o) and c ∧ does (.andS o) and r ∧ does (.andSCst o) and c
      ∧ does (.orL o) or r ∧ does (.orLCst o) or c ∧ does (.orS o) or r ∧ does (.orSCst o) or c
      ∧ does (.xorL o) xor r ∧ does (.xorLCst o) xor c ∧ does (.xorS o) xor r ∧ does (.xorSCst o) xor c

/-- The signed compares write 1 or 0; a 32-bit operand beside a pair is sign-extended (41_logic_shift_bitfield.md R419,
R420, R424, R432). -/
def Obligations.SignedCompares : Prop :=
  ∀ (s : State) (o : Ops3),
    let r := (s.reg o.side o.src1).toInt
    let x1 := (s.reg (o.side.cross o.x) o.src1).toInt
    let c := o.src1.toInt
    let x2 := (s.reg (o.side.cross o.x) o.src2).toInt
    let l := (s.long o.side o.src2).toInt
    let does (i : Instr) (p : Bool) : Prop :=
      exec i s = s.ifHolds o.cond (s.sets o.side o.dst (truth (p = true)))
    does (.cmpeq o) (r = x2) ∧ does (.cmpeqCst o) (c = x2) ∧ does (.cmpeqLong o) (x1 = l)
      ∧ does (.cmpeqCstLong o) (c = l)
      ∧ does (.cmpgt o) (r > x2) ∧ does (.cmpgtCst o) (c > x2) ∧ does (.cmpgtLong o) (x1 > l)
      ∧ does (.cmpgtCstLong o) (c > l)
      ∧ does (.cmplt o) (r < x2) ∧ does (.cmpltCst o) (c < x2) ∧ does (.cmpltLong o) (x1 < l)
      ∧ does (.cmpltCstLong o) (c < l)

/-- The unsigned compares; a constant form whose bit 17 is 1 writes a free value (41_logic_shift_bitfield.md R419, R428,
R436; D33, log 13). -/
def Obligations.UnsignedCompares : Prop :=
  ∀ (s : State) (o : Ops3),
    let r := (s.reg o.side o.src1).toNat
    let x1 := (s.reg (o.side.cross o.x) o.src1).toNat
    let c := o.src1.toNat
    let x2 := (s.reg (o.side.cross o.x) o.src2).toNat
    let l := (s.long o.side o.src2).toNat
    let does (i : Instr) (p : Bool) : Prop :=
      exec i s = s.ifHolds o.cond (s.sets o.side o.dst (truth (p = true)))
    let doesCst (i : Instr) (p : Bool) : Prop :=
      (c < 16 → does i p) ∧ (16 ≤ c → exec i s = s.ifHolds o.cond (s.setsFree o.side o.dst))
    does (.cmpgtu o) (r > x2) ∧ doesCst (.cmpgtuCst o) (c > x2) ∧ does (.cmpgtuLong o) (x1 > l)
      ∧ doesCst (.cmpgtuCstLong o) (c > l)
      ∧ does (.cmpltu o) (r < x2) ∧ doesCst (.cmpltuCst o) (c < x2) ∧ does (.cmpltuLong o) (x1 < l)
      ∧ doesCst (.cmpltuCstLong o) (c < l)

/-- CLR and SET change the bits csta to cstb and no others; with csta above cstb the result is a free value
(41_logic_shift_bitfield.md R450, R455; D37, log 12).  The register forms take csta and cstb from src1, and are free when
one of its 22 upper bits is set (R449; D31, log 11). -/
def Obligations.ClearAndSetBitFields : Prop :=
  ∀ s : State,
    let clr (lo hi : Nat) (x v : Word) : Prop :=
      ∀ k < 32, v.getLsbD k = (x.getLsbD k && !(decide (lo ≤ k) && decide (k ≤ hi)))
    let set (lo hi : Nat) (x v : Word) : Prop :=
      ∀ k < 32, v.getLsbD k = (x.getLsbD k || (decide (lo ≤ k) && decide (k ≤ hi)))
    (∀ o : OpsField, o.csta.toNat ≤ o.cstb.toNat →
      (∃ v, exec (.clr o) s = s.ifHolds o.cond (s.putReg o.side o.dst v)
        ∧ clr o.csta.toNat o.cstb.toNat (s.reg o.side o.src2) v)
      ∧ (∃ v, exec (.set o) s = s.ifHolds o.cond (s.putReg o.side o.dst v)
        ∧ set o.csta.toNat o.cstb.toNat (s.reg o.side o.src2) v))
    ∧ (∀ o : OpsField, o.cstb.toNat < o.csta.toNat →
      exec (.clr o) s = s.ifHolds o.cond (s.setsFree o.side o.dst)
        ∧ exec (.set o) s = s.ifHolds o.cond (s.setsFree o.side o.dst))
    ∧ (∀ o : Ops3,
      let f := (s.reg o.side o.src1).toNat
      (f < 2 ^ 10 ∧ f / 2 ^ 5 ≤ f % 2 ^ 5 →
        (∃ v, exec (.clrReg o) s = s.ifHolds o.cond (s.putReg o.side o.dst v)
          ∧ clr (f / 2 ^ 5) (f % 2 ^ 5) (s.reg (o.side.cross o.x) o.src2) v)
        ∧ (∃ v, exec (.setReg o) s = s.ifHolds o.cond (s.putReg o.side o.dst v)
          ∧ set (f / 2 ^ 5) (f % 2 ^ 5) (s.reg (o.side.cross o.x) o.src2) v))
      ∧ (2 ^ 10 ≤ f ∨ f % 2 ^ 5 < f / 2 ^ 5 →
        exec (.clrReg o) s = s.ifHolds o.cond (s.setsFree o.side o.dst)
          ∧ exec (.setReg o) s = s.ifHolds o.cond (s.setsFree o.side o.dst)))

/-- EXT and EXTU shift left by csta, then right by cstb, for every pair of amounts (41_logic_shift_bitfield.md R460,
R465); the register forms are free when one of the 22 upper bits of src1 is set (R449; D31, log 11). -/
def Obligations.ExtractBitFields : Prop :=
  ∀ s : State,
    let ext (x : Word) (lo hi : Nat) : Int := (BitVec.ofNat 32 (x.toNat * 2 ^ lo)).toInt / 2 ^ hi
    let extu (x : Word) (lo hi : Nat) : Int := (x.toNat * 2 ^ lo % 2 ^ 32 / 2 ^ hi : Nat)
    (∀ o : OpsField,
      exec (.ext o) s = s.ifHolds o.cond (s.sets o.side o.dst (ext (s.reg o.side o.src2) o.csta.toNat o.cstb.toNat))
      ∧ exec (.extu o) s
        = s.ifHolds o.cond (s.sets o.side o.dst (extu (s.reg o.side o.src2) o.csta.toNat o.cstb.toNat)))
    ∧ (∀ o : Ops3,
      let f := (s.reg o.side o.src1).toNat
      let x := s.reg (o.side.cross o.x) o.src2
      (f < 2 ^ 10 →
        exec (.extReg o) s = s.ifHolds o.cond (s.sets o.side o.dst (ext x (f / 2 ^ 5) (f % 2 ^ 5)))
        ∧ exec (.extuReg o) s = s.ifHolds o.cond (s.sets o.side o.dst (extu x (f / 2 ^ 5) (f % 2 ^ 5))))
      ∧ (2 ^ 10 ≤ f →
        exec (.extReg o) s = s.ifHolds o.cond (s.setsFree o.side o.dst)
        ∧ exec (.extuReg o) s = s.ifHolds o.cond (s.setsFree o.side o.dst)))

/-- SHL, SHR and SHRU: a register amount is its six low bits, at most 40; a constant is 0 to 31.  SSHL saturates the exact
value shifted; a register amount above 31 leaves its result and the SAT request open (41_logic_shift_bitfield.md R469,
R470, R475, R480, R485; the 32-bit results for amounts of 32 to 40 are derived, log 47; the open case is D32, log 14). -/
def Obligations.ShiftsWithAndWithoutSaturation : Prop :=
  ∀ (s : State) (o : Ops3),
    let a := (s.reg o.side o.src1).toNat
    let n := min (a % 64) 40
    let c := o.src1.toNat
    let x := s.reg (o.side.cross o.x) o.src2
    let l := s.long o.side o.src2
    let does (i : Instr) (v : Int) : Prop := exec i s = s.ifHolds o.cond (s.sets o.side o.dst v)
    let doesPair (i : Instr) (v : Int) : Prop := exec i s = s.ifHolds o.cond (s.setsPair o.side o.dst v)
    does (.shl o) (x.toInt * 2 ^ n) ∧ does (.shlCst o) (x.toInt * 2 ^ c)
      ∧ doesPair (.shlLong o) (l.toInt * 2 ^ n) ∧ doesPair (.shlCstLong o) (l.toInt * 2 ^ c)
      ∧ doesPair (.shlToLong o) (x.toNat * 2 ^ n) ∧ doesPair (.shlCstToLong o) (x.toNat * 2 ^ c)
      ∧ does (.shr o) (x.toInt / 2 ^ n) ∧ does (.shrCst o) (x.toInt / 2 ^ c)
      ∧ doesPair (.shrLong o) (l.toInt / 2 ^ n) ∧ doesPair (.shrCstLong o) (l.toInt / 2 ^ c)
      ∧ does (.shru o) (x.toNat / 2 ^ n) ∧ does (.shruCst o) (x.toNat / 2 ^ c)
      ∧ doesPair (.shruLong o) (l.toNat / 2 ^ n) ∧ doesPair (.shruCstLong o) (l.toNat / 2 ^ c)
      ∧ exec (.sshlCst o) s = s.ifHolds o.cond (s.setsSaturated o.side o.dst (x.toInt * 2 ^ c))
      ∧ (a ≤ 31 → exec (.sshl o) s = s.ifHolds o.cond (s.setsSaturated o.side o.dst (x.toInt * 2 ^ a)))
      ∧ (31 < a → exec (.sshl o) s = s.ifHolds o.cond
        (if s.freeBit then (s.setsFree o.side o.dst).requestSat 1 else s.setsFree o.side o.dst))

/-- MVK, MVKL sign-extend their constant; MVKH, MVKLH write the upper half and keep the lower (45_move_control.md R635,
R640, R641, 46_pseudo_ops.md R672). -/
def Obligations.ConstantMoves : Prop :=
  ∀ (s : State) (o : OpsK),
    exec (.mvk o) s = s.ifHolds o.cond (s.sets o.side o.dst o.cst.toInt)
    ∧ exec (.mvkl o) s = s.ifHolds o.cond (s.sets o.side o.dst o.cst.toInt)
    ∧ exec (.mvkh o) s = s.ifHolds o.cond (s.sets o.side o.dst (halves o.cst.toNat (s.reg o.side o.dst).toNat))
    ∧ exec (.mvklh o) s = s.ifHolds o.cond (s.sets o.side o.dst (halves o.cst.toNat (s.reg o.side o.dst).toNat))

/-- MVC from a control register: what each of the eight readable ones reads as; every other address is a fault
(45_move_control.md R630, 10_state.md R59, R60; the fault is D14, log 23). -/
def Obligations.ReadingControlRegisters : Prop :=
  ∀ (s : State) (o : Ops3),
    let does (v : Word) : Prop := exec (.mvcRead o) s = s.ifHolds o.cond (s.putReg o.side o.dst v)
    let hpeint (m : Nat) : Prop :=
      (∀ k ∈ [1, 4, 5, 6, 7, 8, 9, 10, 11, 12, 13, 14, 15], k < m → (s.ifr.getLsbD k && s.ier.getLsbD k) = false)
        ∧ m ∈ [1, 4, 5, 6, 7, 8, 9, 10, 11, 12, 13, 14, 15] ∧ (s.ifr.getLsbD m && s.ier.getLsbD m) = true
    (o.src2 = 0 → ∃ v, does v ∧ ∀ k < 32, v.getLsbD k = (s.amr.getLsbD k && decide (k < 26)))
    ∧ (o.src2 = 1 → does s.csr)
    ∧ (o.src2 = 2 → ∃ v, does v ∧ ∀ k < 32,
        v.getLsbD k = (s.ifr.getLsbD k && decide (k < 16) && !decide (k = 2) && !decide (k = 3)))
    ∧ (o.src2 = 4 → ∃ v, does v ∧ ∀ k < 32, v.getLsbD k =
        (decide (k = 0) || (s.ier.getLsbD k && decide (k < 16) && !decide (k = 2) && !decide (k = 3))))
    ∧ (o.src2 = 5 → ∀ m, hpeint m → does (BitVec.ofNat 32 (s.istb.toNat * 1024 + m * 32)))
    ∧ (o.src2 = 5 → (∀ m, ¬ hpeint m) → does (BitVec.ofNat 32 (s.istb.toNat * 1024)))
    ∧ (o.src2 = 6 → does s.irp)
    ∧ (o.src2 = 7 → does s.nrp)
    ∧ (o.src2 = 16 → does (BitVec.ofNat 32 (s.pc.toNat / 32 * 32)))
    ∧ (o.src2 = 3 ∨ 8 ≤ o.src2.toNat ∧ o.src2.toNat ≠ 16 → s.holds o.cond = true →
        exec (.mvcRead o) s = .fault .badControlRegister)

/-- MVC to a control register asks for the write of the register the dst field names; a reserved PWRD value and an
address that cannot be written are faults (45_move_control.md R631, 60_exceptions.md R762; the faults are D14, D28, logs
23, 28; SAT on a 1 is D5, log 15). -/
def Obligations.WritingControlRegisters : Prop :=
  ∀ (s : State) (o : Ops3),
    let v := s.reg (o.side.cross o.x) o.src2
    let does (c : CtrlWrite) : Prop := exec (.mvcWrite o) s = s.ifHolds o.cond (s.putCtrl c)
    let pwrd := v.toNat / 2 ^ 10 % 2 ^ 6
    let legal : Prop := pwrd = 0 ∨ pwrd = 0x09 ∨ pwrd = 0x11 ∨ pwrd = 0x1A ∨ pwrd = 0x1C
    (o.dst = 0 → does (.amr v))
    ∧ (o.dst = 1 → legal → v.getLsbD 9 = false → does (.csr v false))
    ∧ (o.dst = 1 → legal → v.getLsbD 9 = true → ∃ sat : Bool, (sat = true → s.satBit = true)
        ∧ exec (.mvcWrite o) s = s.ifHolds o.cond (s.drawn.putCtrl (.csr v sat)))
    ∧ (o.dst = 1 → ¬ legal → s.holds o.cond = true → exec (.mvcWrite o) s = .fault .reservedPowerDown)
    ∧ (o.dst = 2 → does (.isr v))
    ∧ (o.dst = 3 → does (.icr v))
    ∧ (o.dst = 4 → does (.ier v))
    ∧ (o.dst = 5 → does (.istp v))
    ∧ (o.dst = 6 → does (.irp v))
    ∧ (o.dst = 7 → does (.nrp v))
    ∧ (8 ≤ o.dst.toNat → s.holds o.cond = true → exec (.mvcWrite o) s = .fault .badControlRegister)

/-- NOP n asks for n - 1 held cycles, IDLE for a hold without end; of several the longest counts
(45_move_control.md R650, R652, R653, R655; D39, log 35). -/
def Obligations.NopAndIdleAskForAHold : Prop :=
  ∀ s : State,
    let holdFor (h : Hold) : State := { s with e1 := { s.e1 with hold := h } }
    (∀ (src : BitVec 3) (m : Nat), s.e1.hold = .count m → exec (.nop src) s = .next (holdFor (.count (max m src.toNat))))
    ∧ (∀ m : Nat, s.e1.hold = .count m → exec .nop9 s = .next (holdFor (.count (max m 8))))
    ∧ (∀ src : BitVec 3, s.e1.hold = .idle → exec (.nop src) s = .next s ∧ exec .nop9 s = .next s)
    ∧ exec .idle s = .next (holdFor .idle)

/-- A taken branch: its target joins the effects of E1 and the packet counts as a branch; an untaken one only counts
(44_branch.md R601, R604, R605, R610, R615, R620). -/
def Obligations.BranchesCompleteInE1 : Prop :=
  ∀ s : State,
    let takes (t : Word) : State := { s with e1 := { s.e1 with branch := some t, branchSeen := true } }
    let only : State := { s with e1 := { s.e1 with branchSeen := true } }
    let asks (c : CtrlWrite) (t : State) : State := { t with e1 := { t.e1 with ctrl := t.e1.ctrl ++ [c] } }
    (∀ o : OpsBr,
      let t := BitVec.ofInt 32 ((s.pc.toNat / 32 * 32 : Nat) + o.cst.toInt * 4)
      t.toNat % 4 = 0
        ∧ (s.holds o.cond = true → s.e1.branch = none → exec (.bDisp o) s = .next (takes t))
        ∧ (s.holds o.cond = false → exec (.bDisp o) s = .next only))
    ∧ (∀ o : Ops3,
      let t := s.reg (o.side.cross o.x) o.src2
      (s.holds o.cond = true → s.e1.branch = none → t.toNat % 4 = 0 → exec (.bReg o) s = .next (takes t))
        ∧ (s.holds o.cond = false → exec (.bReg o) s = .next only))
    ∧ (∀ o : OpsRet,
      (s.holds o.cond = true → s.e1.branch = none → s.irp.toNat % 4 = 0 →
        exec (.bIrp o) s = .next (asks .returnIrp (takes s.irp)))
      ∧ (s.holds o.cond = false → exec (.bIrp o) s = .next only))
    ∧ (∀ o : OpsRet,
      (s.holds o.cond = true → s.e1.branch = none → s.nrp.toNat % 4 = 0 →
        exec (.bNrp o) s = .next (asks .returnNrp (takes s.nrp)))
      ∧ (s.holds o.cond = false → exec (.bNrp o) s = .next only))

/-- Where a taken branch is a fault: a target that is not a multiple of 4, and a second taken branch of the packet
(44_branch.md R601, R602; D11, D38, logs 21, 24); a branch that is both is reported as the first (the model's choice,
log 49). -/
def Obligations.BranchFaults : Prop :=
  ∀ s : State,
    (∀ o : Ops3, s.holds o.cond = true →
      let t := s.reg (o.side.cross o.x) o.src2
      (t.toNat % 4 ≠ 0 → exec (.bReg o) s = .fault .misalignedBranchTarget)
        ∧ (t.toNat % 4 = 0 → s.e1.branch ≠ none → exec (.bReg o) s = .fault .doubleBranch))
    ∧ (∀ o : OpsBr, s.holds o.cond = true → s.e1.branch ≠ none → exec (.bDisp o) s = .fault .doubleBranch)
    ∧ (∀ o : OpsRet, s.holds o.cond = true →
      (s.irp.toNat % 4 ≠ 0 → exec (.bIrp o) s = .fault .misalignedBranchTarget)
        ∧ (s.irp.toNat % 4 = 0 → s.e1.branch ≠ none → exec (.bIrp o) s = .fault .doubleBranch)
        ∧ (s.nrp.toNat % 4 ≠ 0 → exec (.bNrp o) s = .fault .misalignedBranchTarget)
        ∧ (s.nrp.toNat % 4 = 0 → s.e1.branch ≠ none → exec (.bNrp o) s = .fault .doubleBranch))

/-- The stores of both forms: the low bytes of the data register at the address of the form, the base written where the
mode says so (43_load_store.md R553, R554, R560 to R563, R570, R576 to R578). -/
def Obligations.StoresOfBothForms : Prop :=
  ∀ s : State,
    (∀ o : OpsMem,
      let does (i : Instr) (k n : Nat) : Prop :=
        s.addrMode o.unit o.base ≠ 3 → s.accessAddress o k % n = 0 → s.storable (s.accessAddress o k) n →
          exec i s = s.ifHolds o.cond ((s.setsBase o k).storesBytes (s.accessAddress o k) n (s.reg o.side o.data))
      does (.stb o) 0 1 ∧ does (.sth o) 1 2 ∧ does (.stw o) 2 4)
    ∧ (∀ o : OpsMem15,
      let does (i : Instr) (k n : Nat) : Prop :=
        s.accessAddress15 o k % n = 0 → s.storable (s.accessAddress15 o k) n →
          exec i s = s.ifHolds o.cond (s.storesBytes (s.accessAddress15 o k) n (s.reg o.side o.data))
      does (.stb15 o) 0 1 ∧ does (.sth15 o) 1 2 ∧ does (.stw15 o) 2 4)

/-- SADD, SSUB and SAT clamp to the size of the result and ask for SAT one cycle later exactly when the clamp changed
the value; ABS clamps the one value that has no positive counterpart and asks for no SAT (40_arith.md R301, R302, R345,
R350, R355). -/
def Obligations.SaturatingArithmeticAndAbs : Prop :=
  ∀ (s : State) (o : Ops3),
    let r := (s.reg o.side o.src1).toInt
    let x1 := (s.reg (o.side.cross o.x) o.src1).toInt
    let c := o.src1.toInt
    let x2 := (s.reg (o.side.cross o.x) o.src2).toInt
    let r2 := (s.reg o.side o.src2).toInt
    let l := (s.long o.side o.src2).toInt
    let does (i : Instr) (v : Int) : Prop := exec i s = s.ifHolds o.cond (s.setsSaturated o.side o.dst v)
    let doesPair (i : Instr) (v : Int) : Prop := exec i s = s.ifHolds o.cond (s.setsPairSaturated o.side o.dst v)
    does (.sadd o) (r + x2) ∧ doesPair (.saddLong o) (x1 + l) ∧ does (.saddCst o) (c + x2)
      ∧ doesPair (.saddCstLong o) (c + l)
      ∧ does (.ssub o) (r - x2) ∧ does (.ssubX o) (x1 - r2) ∧ does (.ssubCst o) (c - x2)
      ∧ doesPair (.ssubCstLong o) (c - l)
      ∧ does (.sat o) l
      ∧ exec (.abs o) s = s.ifHolds o.cond (s.sets o.side o.dst (min x2.natAbs (2 ^ 31 - 1) : Nat))
      ∧ exec (.absLong o) s = s.ifHolds o.cond (s.setsPair o.side o.dst (min l.natAbs (2 ^ 39 - 1) : Nat))

/-- LMBD counts the bits to the left of the first one searched for, 32 if there is none; NORM counts the redundant sign
bits of 32 or 40 bits (41_logic_shift_bitfield.md R440, R445). -/
def Obligations.LeftmostBitAndNormalization : Prop :=
  ∀ (s : State) (o : Ops3),
    let x := s.reg (o.side.cross o.x) o.src2
    let l := s.long o.side o.src2
    let finds (i : Instr) (b : Bool) : Prop :=
      ∃ n : Nat, exec i s = s.ifHolds o.cond (s.sets o.side o.dst n) ∧ n ≤ 32
        ∧ (∀ k < n, x.getLsbD (31 - k) ≠ b) ∧ (n < 32 → x.getLsbD (31 - n) = b)
    finds (.lmbd o) ((s.reg o.side o.src1).getLsbD 0) ∧ finds (.lmbdCst o) (o.src1.getLsbD 0)
    ∧ (∃ n : Nat, exec (.norm o) s = s.ifHolds o.cond (s.sets o.side o.dst n) ∧ n ≤ 31
      ∧ (∀ k < n, x.getLsbD (30 - k) = x.msb) ∧ (n < 31 → x.getLsbD (30 - n) ≠ x.msb))
    ∧ (∃ n : Nat, exec (.normLong o) s = s.ifHolds o.cond (s.sets o.side o.dst n) ∧ n ≤ 39
      ∧ (∀ k < n, l.getLsbD (38 - k) = l.msb) ∧ (n < 39 → l.getLsbD (38 - n) ≠ l.msb))

/-- The multiplies: the halves and signs their mnemonics name, one delay slot; SMPY, SMPYH, SMPYHL, SMPYLH double the
product, clamp 2^31 and then ask for SAT two cycles later (42_multiply.md R500 to R516, R519 to R523). -/
def Obligations.MultiplySixteenBySixteen : Prop :=
  ∀ (s : State) (o : Ops3),
    let a := s.reg o.side o.src1
    let b := s.reg (o.side.cross o.x) o.src2
    let does (i : Instr) (p : Int) : Prop := exec i s = s.ifHolds o.cond (s.setsLate o.side o.dst p 1)
    let doubles (i : Instr) (p : Int) : Prop := exec i s = s.ifHolds o.cond (s.setsDouble o.side o.dst p)
    does (.mpy o) (signedLow a * signedLow b) ∧ does (.mpyCst o) (o.src1.toInt * signedLow b)
      ∧ does (.mpyu o) (unsignedLow a * unsignedLow b) ∧ does (.mpyus o) (unsignedLow a * signedLow b)
      ∧ does (.mpysu o) (signedLow a * unsignedLow b) ∧ does (.mpysuCst o) (o.src1.toInt * unsignedLow b)
      ∧ does (.mpyh o) (signedHigh a * signedHigh b) ∧ does (.mpyhu o) (unsignedHigh a * unsignedHigh b)
      ∧ does (.mpyhus o) (unsignedHigh a * signedHigh b) ∧ does (.mpyhsu o) (signedHigh a * unsignedHigh b)
      ∧ does (.mpyhl o) (signedHigh a * signedLow b) ∧ does (.mpyhlu o) (unsignedHigh a * unsignedLow b)
      ∧ does (.mpyhuls o) (unsignedHigh a * signedLow b) ∧ does (.mpyhslu o) (signedHigh a * unsignedLow b)
      ∧ does (.mpylh o) (signedLow a * signedHigh b) ∧ does (.mpylhu o) (unsignedLow a * unsignedHigh b)
      ∧ does (.mpyluhs o) (unsignedLow a * signedHigh b) ∧ does (.mpylshu o) (signedLow a * unsignedHigh b)
      ∧ doubles (.smpy o) (signedLow a * signedLow b) ∧ doubles (.smpyh o) (signedHigh a * signedHigh b)
      ∧ doubles (.smpyhl o) (signedHigh a * signedLow b) ∧ doubles (.smpylh o) (signedLow a * signedHigh b)

/-- MV, NEG, NOT, ZERO: the copy, the negation (wrapping), the complement, zero; and every pseudo-operation does what the
machine instruction it stands for does (46_pseudo_ops.md R670, R671, R673, R674, R675). -/
def Obligations.PseudoOperations : Prop :=
  ∀ s : State,
    (∀ o : Ops2,
      let x := s.reg (o.side.cross o.x) o.src2
      let l := s.long o.side o.src2
      exec (.mvL o) s = s.ifHolds o.cond (s.sets o.side o.dst x.toInt)
      ∧ exec (.mvS o) s = s.ifHolds o.cond (s.sets o.side o.dst x.toInt)
      ∧ exec (.mvLLong o) s = s.ifHolds o.cond (s.setsPair o.side o.dst l.toInt)
      ∧ exec (.negL o) s = s.ifHolds o.cond (s.sets o.side o.dst (-x.toInt))
      ∧ exec (.negS o) s = s.ifHolds o.cond (s.sets o.side o.dst (-x.toInt))
      ∧ exec (.negLLong o) s = s.ifHolds o.cond (s.setsPair o.side o.dst (-l.toInt))
      ∧ exec (.notL o) s = s.ifHolds o.cond (s.sets o.side o.dst (2 ^ 32 - 1 - x.toNat))
      ∧ exec (.notS o) s = s.ifHolds o.cond (s.sets o.side o.dst (2 ^ 32 - 1 - x.toNat)))
    ∧ (∀ o : OpsD2, exec (.mvD o) s = s.ifHolds o.cond (s.sets o.side o.dst (s.reg o.side o.src2).toInt))
    ∧ (∀ o : OpsZ,
      exec (.zeroL o) s = s.ifHolds o.cond (s.sets o.side o.dst 0)
      ∧ exec (.zeroLLong o) s = s.ifHolds o.cond (s.setsPair o.side o.dst 0)
      ∧ exec (.zeroS o) s = s.ifHolds o.cond (s.sets o.side o.dst 0)
      ∧ exec (.zeroD o) s = s.ifHolds o.cond (s.sets o.side o.dst 0))
    ∧ (∀ i : Instr, exec i s = exec i.expand s)

/-- The loads: the address of Table 3-6, or B14 or B15 plus the 15-bit offset; the base written where the mode says so;
the value joined in the byte order and extended; four delay slots (43_load_store.md R553 to R559, R570 to R575,
20_memory.md R150, R151, R155). -/
def Obligations.LoadsOfBothForms : Prop :=
  ∀ (s : State) (b : Nat → Byte),
    let e := s.littleEndian
    (∀ o : OpsMem,
      let does (i : Instr) (k n : Nat) (v : Int) : Prop :=
        s.addrMode o.unit o.base ≠ 3 → s.accessAddress o k % n = 0 → s.bytesAre (s.accessAddress o k) n b →
          exec i s = s.ifHolds o.cond ((s.setsBase o k).setsLate o.side o.data v 4)
      does (.ldbu o) 0 1 (bytesValue e 1 b) ∧ does (.ldb o) 0 1 (Int.bmod (bytesValue e 1 b) (2 ^ 8))
        ∧ does (.ldhu o) 1 2 (bytesValue e 2 b) ∧ does (.ldh o) 1 2 (Int.bmod (bytesValue e 2 b) (2 ^ 16))
        ∧ does (.ldw o) 2 4 (bytesValue e 4 b))
    ∧ (∀ o : OpsMem15,
      let does (i : Instr) (k n : Nat) (v : Int) : Prop :=
        s.accessAddress15 o k % n = 0 → s.bytesAre (s.accessAddress15 o k) n b →
          exec i s = s.ifHolds o.cond (s.setsLate o.side o.data v 4)
      does (.ldbu15 o) 0 1 (bytesValue e 1 b) ∧ does (.ldb15 o) 0 1 (Int.bmod (bytesValue e 1 b) (2 ^ 8))
        ∧ does (.ldhu15 o) 1 2 (bytesValue e 2 b) ∧ does (.ldh15 o) 1 2 (Int.bmod (bytesValue e 2 b) (2 ^ 16))
        ∧ does (.ldw15 o) 2 4 (bytesValue e 4 b))

/-- Where a load or store stops: the reserved addressing mode, a misaligned address, an unmapped byte, for a load a byte
without a value, for a store a byte of program text or one the packet has stored to already (43_load_store.md R564,
20_memory.md R143, R146, R156, R182, R186; the faults are D41, D6, D25, D29, D18, D26, logs 27, 20, 6, 7, 8, 25); a
peripheral's window is refused (00_scope.md R7 (a), log 6).  Which of two faults of one access is reported is the model's
choice (log 49). -/
def Obligations.StopsOfLoadsAndStores : Prop :=
  ∀ s : State,
    let stops (i : Instr) (a n : Nat) : Prop :=
      (1 < n → a % n ≠ 0 → exec i s = .fault .misalignedAccess)
      ∧ (a % n = 0 → s.dataRegion a = none → exec i s = .fault .unmappedAccess)
      ∧ (∀ r, a % n = 0 → s.dataRegion a = some r → r.space = .peripheral → exec i s = .refused .peripheralAccess)
    let loadStops (i : Instr) (a n : Nat) : Prop :=
      stops i a n ∧ (a % n = 0 → s.checkData a = .ok () → s.mem.read a = none → exec i s = .fault .uninitialisedMemory)
    let storeStops (i : Instr) (a n : Nat) : Prop :=
      stops i a n ∧ (a % n = 0 → (∀ j < n, s.checkData (a + j) = .ok ()) →
        (∀ j < n, s.isText (a + j) = true → exec i s = .fault .storeToProgram)
        ∧ ((∀ j < n, s.isText (a + j) = false) → ∀ j < n, ∀ c ∈ s.e1.stores, c.1 = a + j →
          exec i s = .fault .storeStoreConflict))
    (∀ o : OpsMem, s.holds o.cond = true →
      (s.addrMode o.unit o.base = 3 → ∀ i ∈ [Instr.ldb o, .ldbu o, .ldh o, .ldhu o, .ldw o, .stb o, .sth o, .stw o],
        exec i s = .fault .reservedAddressingMode)
      ∧ (s.addrMode o.unit o.base ≠ 3 →
        loadStops (.ldb o) (s.accessAddress o 0) 1 ∧ loadStops (.ldbu o) (s.accessAddress o 0) 1
        ∧ loadStops (.ldh o) (s.accessAddress o 1) 2 ∧ loadStops (.ldhu o) (s.accessAddress o 1) 2
        ∧ loadStops (.ldw o) (s.accessAddress o 2) 4 ∧ storeStops (.stb o) (s.accessAddress o 0) 1
        ∧ storeStops (.sth o) (s.accessAddress o 1) 2 ∧ storeStops (.stw o) (s.accessAddress o 2) 4))
    ∧ (∀ o : OpsMem15, s.holds o.cond = true →
      loadStops (.ldb15 o) (s.accessAddress15 o 0) 1 ∧ loadStops (.ldbu15 o) (s.accessAddress15 o 0) 1
      ∧ loadStops (.ldh15 o) (s.accessAddress15 o 1) 2 ∧ loadStops (.ldhu15 o) (s.accessAddress15 o 1) 2
      ∧ loadStops (.ldw15 o) (s.accessAddress15 o 2) 4 ∧ storeStops (.stb15 o) (s.accessAddress15 o 0) 1
      ∧ storeStops (.sth15 o) (s.accessAddress15 o 1) 2 ∧ storeStops (.stw15 o) (s.accessAddress15 o 2) 4)

/-- A register pair is read as 40 bits: the low 8 bits of the odd register above the even one, its other 24 ignored; and
a 40-bit result fills the pair, those 24 bits with zeros (10_state.md R44). -/
def Obligations.RegisterPairsHoldFortyBits : Prop :=
  ∀ (s : State) (side : Side) (field : BitVec 5) (v : Long),
    (s.long side field).toNat = (s.reg side (field + 1)).toNat % 2 ^ 8 * 2 ^ 32 + (s.reg side field).toNat
    ∧ s.putLong side field v = s.setsPair side field v.toNat

end Statements
end

