-- ==== Sys2Proof/Laws/Bits.lean ====
section
/-! SUPPORT. Laws of single bits, masks and fields of a word, for the control registers. -/

namespace Sys2Proof.Machine

/-- The bits of a word with one bit given a value. -/
theorem getLsbD_setBit (v : Word) (i j : Nat) (b : Bool) (hi : i < 32) :
    (setBit v i b).getLsbD j = if j = i then b else v.getLsbD j := by
  unfold setBit
  by_cases h : j = i
  · subst h; cases b <;> simp [hi]
  · cases b
    · by_cases hj : j < 32
      · simp [h, hj]
      · simp [h, BitVec.getLsbD_of_ge _ _ (Nat.le_of_not_lt hj)]
    · simp [h, Ne.symm h]

/-- A field that does not hold the bit given a value. -/
theorem extract_setBit (v : Word) (i start len : Nat) (b : Bool) (hi : i < 32) (h : i < start ∨ start + len ≤ i) :
    (setBit v i b).extractLsb' start len = v.extractLsb' start len := by
  apply BitVec.eq_of_getLsbD_eq
  intro k hk
  simp only [BitVec.getLsbD_extractLsb', getLsbD_setBit v i _ b hi]
  rw [if_neg (by omega)]

/-- A mask that does not hold the bit given a value. -/
theorem setBit_and (v m : Word) (i : Nat) (b : Bool) (hi : i < 32) (h : m.getLsbD i = false) :
    setBit v i b &&& m = v &&& m := by
  apply BitVec.eq_of_getLsbD_eq
  intro k _
  simp only [BitVec.getLsbD_and, getLsbD_setBit v i k b hi]
  split
  · next e => rw [e, h]; simp
  · rfl

theorem mask_or {n : Nat} (x y m : BitVec n) : (x ||| y) &&& m = (x &&& m) ||| (y &&& m) := by
  apply BitVec.eq_of_getLsbD_eq
  intro k _
  simp [Bool.and_or_distrib_right]

/-- A mask that keeps a field. -/
theorem extract_and_keep (v m : Word) (start len : Nat) (h : ∀ i < len, m.getLsbD (start + i) = true) :
    (v &&& m).extractLsb' start len = v.extractLsb' start len := by
  apply BitVec.eq_of_getLsbD_eq
  intro k hk
  simp [h k hk, hk]

/-- A mask that clears a field. -/
theorem extract_and_clear (v m : Word) (start len : Nat) (h : ∀ i < len, m.getLsbD (start + i) = false) :
    (v &&& m).extractLsb' start len = 0 := by
  apply BitVec.eq_of_getLsbD_eq
  intro k hk
  simp [h k hk]

theorem extract_or (v w : Word) (start len : Nat) :
    (v ||| w).extractLsb' start len = v.extractLsb' start len ||| w.extractLsb' start len := by
  apply BitVec.eq_of_getLsbD_eq
  intro k hk
  simp [hk]

/-- CSR after an MVC, before SAT: what the MVC writes, and what it leaves. -/
theorem csr_written_field (c v : Word) (start len : Nat) (h : ∀ i < len, (0xFFFF0100 : Word).getLsbD (start + i) = false)
    (h' : ∀ i < len, (0x0000FCFF : Word).getLsbD (start + i) = true) :
    ((c &&& 0xFFFF0100) ||| (v &&& 0x0000FCFF)).extractLsb' start len = v.extractLsb' start len := by
  rw [extract_or, extract_and_clear _ _ _ _ h, extract_and_keep _ _ _ _ h']; simp

theorem csr_kept_field (c v : Word) (start len : Nat) (h : ∀ i < len, (0xFFFF0100 : Word).getLsbD (start + i) = true)
    (h' : ∀ i < len, (0x0000FCFF : Word).getLsbD (start + i) = false) :
    ((c &&& 0xFFFF0100) ||| (v &&& 0x0000FCFF)).extractLsb' start len = c.extractLsb' start len := by
  rw [extract_or, extract_and_keep _ _ _ _ h, extract_and_clear _ _ _ _ h']; simp

/-! ## CSR right after reset (10_state.md R80) -/

theorem csrReset_cpuId (r : BitVec 8) (b : Bool) : (csrReset r b).extractLsb' 24 8 = 0 := by
  repeat refine (BitVec.extractLsb'_append_eq_of_le (by omega)).trans ?_
  rfl

theorem csrReset_revision (r : BitVec 8) (b : Bool) : (csrReset r b).extractLsb' 16 8 = r := by
  repeat refine (BitVec.extractLsb'_append_eq_of_le (by omega)).trans ?_
  refine (BitVec.extractLsb'_append_eq_of_add_le (by omega)).trans ?_
  simp

theorem csrReset_low (r : BitVec 8) (b : Bool) : (csrReset r b).extractLsb' 0 16 = if b then 0x0100 else 0 := by
  apply BitVec.eq_of_getLsbD_eq
  intro k hk
  have : ∀ k < 16, ((csrReset 0 b).extractLsb' 0 16).getLsbD k = (if b then 0x0100 else 0 : BitVec 16).getLsbD k := by
    cases b <;> decide
  rw [← this k hk]
  simp only [csrReset, BitVec.getLsbD_extractLsb', BitVec.getLsbD_append]
  split <;> try rfl
  split <;> try rfl
  split <;> try rfl
  omega

theorem csrReset_pwrd (r : BitVec 8) (b : Bool) : (csrReset r b).extractLsb' 10 6 = 0 := by
  have h : (csrReset r b).extractLsb' 10 6 = ((csrReset r b).extractLsb' 0 16).extractLsb' 10 6 := by
    apply BitVec.eq_of_getLsbD_eq
    intro k hk
    simp [hk]
  rw [h, csrReset_low]
  cases b <;> decide

end Sys2Proof.Machine
end

