-- ==== Sys2Proof/Laws/State.lean ====
section
/-! SUPPORT. One lemma for each field of the state under each of the record updates that the meanings and the end of a
cycle are made of, true by unfolding, so that no later proof unfolds a record. -/

namespace Sys2Proof.Machine

/-! ## A zero-delay register write asked for -/

@[simp] theorem State.putReg_a (s : State) (d : Side) (f : BitVec 5) (v : Word) : (s.putReg d f v).a = s.a := rfl
@[simp] theorem State.putReg_b (s : State) (d : Side) (f : BitVec 5) (v : Word) : (s.putReg d f v).b = s.b := rfl
@[simp] theorem State.putReg_pc (s : State) (d : Side) (f : BitVec 5) (v : Word) : (s.putReg d f v).pc = s.pc := rfl
@[simp] theorem State.putReg_amr (s : State) (d : Side) (f : BitVec 5) (v : Word) :
    (s.putReg d f v).amr = s.amr := rfl
@[simp] theorem State.putReg_csr (s : State) (d : Side) (f : BitVec 5) (v : Word) :
    (s.putReg d f v).csr = s.csr := rfl
@[simp] theorem State.putReg_ifr (s : State) (d : Side) (f : BitVec 5) (v : Word) :
    (s.putReg d f v).ifr = s.ifr := rfl
@[simp] theorem State.putReg_ier (s : State) (d : Side) (f : BitVec 5) (v : Word) :
    (s.putReg d f v).ier = s.ier := rfl
@[simp] theorem State.putReg_istb (s : State) (d : Side) (f : BitVec 5) (v : Word) :
    (s.putReg d f v).istb = s.istb := rfl
@[simp] theorem State.putReg_irp (s : State) (d : Side) (f : BitVec 5) (v : Word) :
    (s.putReg d f v).irp = s.irp := rfl
@[simp] theorem State.putReg_nrp (s : State) (d : Side) (f : BitVec 5) (v : Word) :
    (s.putReg d f v).nrp = s.nrp := rfl
@[simp] theorem State.putReg_mem (s : State) (d : Side) (f : BitVec 5) (v : Word) :
    (s.putReg d f v).mem = s.mem := rfl
@[simp] theorem State.putReg_prog (s : State) (d : Side) (f : BitVec 5) (v : Word) :
    (s.putReg d f v).prog = s.prog := rfl
@[simp] theorem State.putReg_pendingRegs (s : State) (d : Side) (f : BitVec 5) (v : Word) :
    (s.putReg d f v).pendingRegs = s.pendingRegs := rfl
@[simp] theorem State.putReg_pendingBranches (s : State) (d : Side) (f : BitVec 5) (v : Word) :
    (s.putReg d f v).pendingBranches = s.pendingBranches := rfl
@[simp] theorem State.putReg_branchShadow (s : State) (d : Side) (f : BitVec 5) (v : Word) :
    (s.putReg d f v).branchShadow = s.branchShadow := rfl
@[simp] theorem State.putReg_pendingSat (s : State) (d : Side) (f : BitVec 5) (v : Word) :
    (s.putReg d f v).pendingSat = s.pendingSat := rfl
@[simp] theorem State.putReg_pendingIfr (s : State) (d : Side) (f : BitVec 5) (v : Word) :
    (s.putReg d f v).pendingIfr = s.pendingIfr := rfl
@[simp] theorem State.putReg_hold (s : State) (d : Side) (f : BitVec 5) (v : Word) :
    (s.putReg d f v).hold = s.hold := rfl
@[simp] theorem State.putReg_intLatch (s : State) (d : Side) (f : BitVec 5) (v : Word) :
    (s.putReg d f v).intLatch = s.intLatch := rfl
@[simp] theorem State.putReg_intHold (s : State) (d : Side) (f : BitVec 5) (v : Word) :
    (s.putReg d f v).intHold = s.intHold := rfl
@[simp] theorem State.putReg_entering (s : State) (d : Side) (f : BitVec 5) (v : Word) :
    (s.putReg d f v).entering = s.entering := rfl
@[simp] theorem State.putReg_iack (s : State) (d : Side) (f : BitVec 5) (v : Word) :
    (s.putReg d f v).iack = s.iack := rfl
@[simp] theorem State.putReg_inum (s : State) (d : Side) (f : BitVec 5) (v : Word) :
    (s.putReg d f v).inum = s.inum := rfl
@[simp] theorem State.putReg_power (s : State) (d : Side) (f : BitVec 5) (v : Word) :
    (s.putReg d f v).power = s.power := rfl
@[simp] theorem State.putReg_launch (s : State) (d : Side) (f : BitVec 5) (v : Word) :
    (s.putReg d f v).launch = s.launch := rfl
@[simp] theorem State.putReg_env (s : State) (d : Side) (f : BitVec 5) (v : Word) :
    (s.putReg d f v).env = s.env := rfl
@[simp] theorem State.putReg_e1_regs (s : State) (d : Side) (f : BitVec 5) (v : Word) :
    (s.putReg d f v).e1.regs = s.e1.regs ++ [{ side := d, reg := f.setWidth 4, value := v }] := rfl
@[simp] theorem State.putReg_e1_late (s : State) (d : Side) (f : BitVec 5) (v : Word) :
    (s.putReg d f v).e1.late = s.e1.late := rfl
@[simp] theorem State.putReg_e1_stores (s : State) (d : Side) (f : BitVec 5) (v : Word) :
    (s.putReg d f v).e1.stores = s.e1.stores := rfl
@[simp] theorem State.putReg_e1_branch (s : State) (d : Side) (f : BitVec 5) (v : Word) :
    (s.putReg d f v).e1.branch = s.e1.branch := rfl
@[simp] theorem State.putReg_e1_branchSeen (s : State) (d : Side) (f : BitVec 5) (v : Word) :
    (s.putReg d f v).e1.branchSeen = s.e1.branchSeen := rfl
@[simp] theorem State.putReg_e1_sat (s : State) (d : Side) (f : BitVec 5) (v : Word) :
    (s.putReg d f v).e1.sat = s.e1.sat := rfl
@[simp] theorem State.putReg_e1_ctrl (s : State) (d : Side) (f : BitVec 5) (v : Word) :
    (s.putReg d f v).e1.ctrl = s.e1.ctrl := rfl
@[simp] theorem State.putReg_e1_hold (s : State) (d : Side) (f : BitVec 5) (v : Word) :
    (s.putReg d f v).e1.hold = s.e1.hold := rfl
@[simp] theorem State.putReg_freeIdx (s : State) (d : Side) (f : BitVec 5) (v : Word) :
    (s.putReg d f v).freeIdx = s.freeIdx := rfl

/-! ## A delayed register write asked for -/

@[simp] theorem State.putLate_a (s : State) (d : Side) (f : BitVec 5) (v : Word) (n : Nat) :
    (s.putLate d f v n).a = s.a := rfl
@[simp] theorem State.putLate_b (s : State) (d : Side) (f : BitVec 5) (v : Word) (n : Nat) :
    (s.putLate d f v n).b = s.b := rfl
@[simp] theorem State.putLate_pc (s : State) (d : Side) (f : BitVec 5) (v : Word) (n : Nat) :
    (s.putLate d f v n).pc = s.pc := rfl
@[simp] theorem State.putLate_amr (s : State) (d : Side) (f : BitVec 5) (v : Word) (n : Nat) :
    (s.putLate d f v n).amr = s.amr := rfl
@[simp] theorem State.putLate_csr (s : State) (d : Side) (f : BitVec 5) (v : Word) (n : Nat) :
    (s.putLate d f v n).csr = s.csr := rfl
@[simp] theorem State.putLate_ifr (s : State) (d : Side) (f : BitVec 5) (v : Word) (n : Nat) :
    (s.putLate d f v n).ifr = s.ifr := rfl
@[simp] theorem State.putLate_ier (s : State) (d : Side) (f : BitVec 5) (v : Word) (n : Nat) :
    (s.putLate d f v n).ier = s.ier := rfl
@[simp] theorem State.putLate_istb (s : State) (d : Side) (f : BitVec 5) (v : Word) (n : Nat) :
    (s.putLate d f v n).istb = s.istb := rfl
@[simp] theorem State.putLate_irp (s : State) (d : Side) (f : BitVec 5) (v : Word) (n : Nat) :
    (s.putLate d f v n).irp = s.irp := rfl
@[simp] theorem State.putLate_nrp (s : State) (d : Side) (f : BitVec 5) (v : Word) (n : Nat) :
    (s.putLate d f v n).nrp = s.nrp := rfl
@[simp] theorem State.putLate_mem (s : State) (d : Side) (f : BitVec 5) (v : Word) (n : Nat) :
    (s.putLate d f v n).mem = s.mem := rfl
@[simp] theorem State.putLate_prog (s : State) (d : Side) (f : BitVec 5) (v : Word) (n : Nat) :
    (s.putLate d f v n).prog = s.prog := rfl
@[simp] theorem State.putLate_pendingRegs (s : State) (d : Side) (f : BitVec 5) (v : Word) (n : Nat) :
    (s.putLate d f v n).pendingRegs = s.pendingRegs := rfl
@[simp] theorem State.putLate_pendingBranches (s : State) (d : Side) (f : BitVec 5) (v : Word) (n : Nat) :
    (s.putLate d f v n).pendingBranches = s.pendingBranches := rfl
@[simp] theorem State.putLate_branchShadow (s : State) (d : Side) (f : BitVec 5) (v : Word) (n : Nat) :
    (s.putLate d f v n).branchShadow = s.branchShadow := rfl
@[simp] theorem State.putLate_pendingSat (s : State) (d : Side) (f : BitVec 5) (v : Word) (n : Nat) :
    (s.putLate d f v n).pendingSat = s.pendingSat := rfl
@[simp] theorem State.putLate_pendingIfr (s : State) (d : Side) (f : BitVec 5) (v : Word) (n : Nat) :
    (s.putLate d f v n).pendingIfr = s.pendingIfr := rfl
@[simp] theorem State.putLate_hold (s : State) (d : Side) (f : BitVec 5) (v : Word) (n : Nat) :
    (s.putLate d f v n).hold = s.hold := rfl
@[simp] theorem State.putLate_intLatch (s : State) (d : Side) (f : BitVec 5) (v : Word) (n : Nat) :
    (s.putLate d f v n).intLatch = s.intLatch := rfl
@[simp] theorem State.putLate_intHold (s : State) (d : Side) (f : BitVec 5) (v : Word) (n : Nat) :
    (s.putLate d f v n).intHold = s.intHold := rfl
@[simp] theorem State.putLate_entering (s : State) (d : Side) (f : BitVec 5) (v : Word) (n : Nat) :
    (s.putLate d f v n).entering = s.entering := rfl
@[simp] theorem State.putLate_iack (s : State) (d : Side) (f : BitVec 5) (v : Word) (n : Nat) :
    (s.putLate d f v n).iack = s.iack := rfl
@[simp] theorem State.putLate_inum (s : State) (d : Side) (f : BitVec 5) (v : Word) (n : Nat) :
    (s.putLate d f v n).inum = s.inum := rfl
@[simp] theorem State.putLate_power (s : State) (d : Side) (f : BitVec 5) (v : Word) (n : Nat) :
    (s.putLate d f v n).power = s.power := rfl
@[simp] theorem State.putLate_launch (s : State) (d : Side) (f : BitVec 5) (v : Word) (n : Nat) :
    (s.putLate d f v n).launch = s.launch := rfl
@[simp] theorem State.putLate_env (s : State) (d : Side) (f : BitVec 5) (v : Word) (n : Nat) :
    (s.putLate d f v n).env = s.env := rfl
@[simp] theorem State.putLate_e1_regs (s : State) (d : Side) (f : BitVec 5) (v : Word) (n : Nat) :
    (s.putLate d f v n).e1.regs = s.e1.regs := rfl
@[simp] theorem State.putLate_e1_late (s : State) (d : Side) (f : BitVec 5) (v : Word) (n : Nat) :
    (s.putLate d f v n).e1.late = s.e1.late ++ [{ write := { side := d, reg := f.setWidth 4, value := v }, left := n }] := rfl
@[simp] theorem State.putLate_e1_stores (s : State) (d : Side) (f : BitVec 5) (v : Word) (n : Nat) :
    (s.putLate d f v n).e1.stores = s.e1.stores := rfl
@[simp] theorem State.putLate_e1_branch (s : State) (d : Side) (f : BitVec 5) (v : Word) (n : Nat) :
    (s.putLate d f v n).e1.branch = s.e1.branch := rfl
@[simp] theorem State.putLate_e1_branchSeen (s : State) (d : Side) (f : BitVec 5) (v : Word) (n : Nat) :
    (s.putLate d f v n).e1.branchSeen = s.e1.branchSeen := rfl
@[simp] theorem State.putLate_e1_sat (s : State) (d : Side) (f : BitVec 5) (v : Word) (n : Nat) :
    (s.putLate d f v n).e1.sat = s.e1.sat := rfl
@[simp] theorem State.putLate_e1_ctrl (s : State) (d : Side) (f : BitVec 5) (v : Word) (n : Nat) :
    (s.putLate d f v n).e1.ctrl = s.e1.ctrl := rfl
@[simp] theorem State.putLate_e1_hold (s : State) (d : Side) (f : BitVec 5) (v : Word) (n : Nat) :
    (s.putLate d f v n).e1.hold = s.e1.hold := rfl
@[simp] theorem State.putLate_freeIdx (s : State) (d : Side) (f : BitVec 5) (v : Word) (n : Nat) :
    (s.putLate d f v n).freeIdx = s.freeIdx := rfl

/-! ## A set of SAT asked for -/

@[simp] theorem State.requestSat_a (s : State) (n : Nat) : (s.requestSat n).a = s.a := rfl
@[simp] theorem State.requestSat_b (s : State) (n : Nat) : (s.requestSat n).b = s.b := rfl
@[simp] theorem State.requestSat_pc (s : State) (n : Nat) : (s.requestSat n).pc = s.pc := rfl
@[simp] theorem State.requestSat_amr (s : State) (n : Nat) : (s.requestSat n).amr = s.amr := rfl
@[simp] theorem State.requestSat_csr (s : State) (n : Nat) : (s.requestSat n).csr = s.csr := rfl
@[simp] theorem State.requestSat_ifr (s : State) (n : Nat) : (s.requestSat n).ifr = s.ifr := rfl
@[simp] theorem State.requestSat_ier (s : State) (n : Nat) : (s.requestSat n).ier = s.ier := rfl
@[simp] theorem State.requestSat_istb (s : State) (n : Nat) : (s.requestSat n).istb = s.istb := rfl
@[simp] theorem State.requestSat_irp (s : State) (n : Nat) : (s.requestSat n).irp = s.irp := rfl
@[simp] theorem State.requestSat_nrp (s : State) (n : Nat) : (s.requestSat n).nrp = s.nrp := rfl
@[simp] theorem State.requestSat_mem (s : State) (n : Nat) : (s.requestSat n).mem = s.mem := rfl
@[simp] theorem State.requestSat_prog (s : State) (n : Nat) : (s.requestSat n).prog = s.prog := rfl
@[simp] theorem State.requestSat_pendingRegs (s : State) (n : Nat) :
    (s.requestSat n).pendingRegs = s.pendingRegs := rfl
@[simp] theorem State.requestSat_pendingBranches (s : State) (n : Nat) :
    (s.requestSat n).pendingBranches = s.pendingBranches := rfl
@[simp] theorem State.requestSat_branchShadow (s : State) (n : Nat) :
    (s.requestSat n).branchShadow = s.branchShadow := rfl
@[simp] theorem State.requestSat_pendingSat (s : State) (n : Nat) : (s.requestSat n).pendingSat = s.pendingSat := rfl
@[simp] theorem State.requestSat_pendingIfr (s : State) (n : Nat) : (s.requestSat n).pendingIfr = s.pendingIfr := rfl
@[simp] theorem State.requestSat_hold (s : State) (n : Nat) : (s.requestSat n).hold = s.hold := rfl
@[simp] theorem State.requestSat_intLatch (s : State) (n : Nat) : (s.requestSat n).intLatch = s.intLatch := rfl
@[simp] theorem State.requestSat_intHold (s : State) (n : Nat) : (s.requestSat n).intHold = s.intHold := rfl
@[simp] theorem State.requestSat_entering (s : State) (n : Nat) : (s.requestSat n).entering = s.entering := rfl
@[simp] theorem State.requestSat_iack (s : State) (n : Nat) : (s.requestSat n).iack = s.iack := rfl
@[simp] theorem State.requestSat_inum (s : State) (n : Nat) : (s.requestSat n).inum = s.inum := rfl
@[simp] theorem State.requestSat_power (s : State) (n : Nat) : (s.requestSat n).power = s.power := rfl
@[simp] theorem State.requestSat_launch (s : State) (n : Nat) : (s.requestSat n).launch = s.launch := rfl
@[simp] theorem State.requestSat_env (s : State) (n : Nat) : (s.requestSat n).env = s.env := rfl
@[simp] theorem State.requestSat_e1_regs (s : State) (n : Nat) : (s.requestSat n).e1.regs = s.e1.regs := rfl
@[simp] theorem State.requestSat_e1_late (s : State) (n : Nat) : (s.requestSat n).e1.late = s.e1.late := rfl
@[simp] theorem State.requestSat_e1_stores (s : State) (n : Nat) : (s.requestSat n).e1.stores = s.e1.stores := rfl
@[simp] theorem State.requestSat_e1_branch (s : State) (n : Nat) : (s.requestSat n).e1.branch = s.e1.branch := rfl
@[simp] theorem State.requestSat_e1_branchSeen (s : State) (n : Nat) :
    (s.requestSat n).e1.branchSeen = s.e1.branchSeen := rfl
@[simp] theorem State.requestSat_e1_sat (s : State) (n : Nat) : (s.requestSat n).e1.sat = s.e1.sat ++ [n] := rfl
@[simp] theorem State.requestSat_e1_ctrl (s : State) (n : Nat) : (s.requestSat n).e1.ctrl = s.e1.ctrl := rfl
@[simp] theorem State.requestSat_e1_hold (s : State) (n : Nat) : (s.requestSat n).e1.hold = s.e1.hold := rfl
@[simp] theorem State.requestSat_freeIdx (s : State) (n : Nat) : (s.requestSat n).freeIdx = s.freeIdx := rfl

/-! ## A control-register write asked for -/

@[simp] theorem State.putCtrl_a (s : State) (c : CtrlWrite) : (s.putCtrl c).a = s.a := rfl
@[simp] theorem State.putCtrl_b (s : State) (c : CtrlWrite) : (s.putCtrl c).b = s.b := rfl
@[simp] theorem State.putCtrl_pc (s : State) (c : CtrlWrite) : (s.putCtrl c).pc = s.pc := rfl
@[simp] theorem State.putCtrl_amr (s : State) (c : CtrlWrite) : (s.putCtrl c).amr = s.amr := rfl
@[simp] theorem State.putCtrl_csr (s : State) (c : CtrlWrite) : (s.putCtrl c).csr = s.csr := rfl
@[simp] theorem State.putCtrl_ifr (s : State) (c : CtrlWrite) : (s.putCtrl c).ifr = s.ifr := rfl
@[simp] theorem State.putCtrl_ier (s : State) (c : CtrlWrite) : (s.putCtrl c).ier = s.ier := rfl
@[simp] theorem State.putCtrl_istb (s : State) (c : CtrlWrite) : (s.putCtrl c).istb = s.istb := rfl
@[simp] theorem State.putCtrl_irp (s : State) (c : CtrlWrite) : (s.putCtrl c).irp = s.irp := rfl
@[simp] theorem State.putCtrl_nrp (s : State) (c : CtrlWrite) : (s.putCtrl c).nrp = s.nrp := rfl
@[simp] theorem State.putCtrl_mem (s : State) (c : CtrlWrite) : (s.putCtrl c).mem = s.mem := rfl
@[simp] theorem State.putCtrl_prog (s : State) (c : CtrlWrite) : (s.putCtrl c).prog = s.prog := rfl
@[simp] theorem State.putCtrl_pendingRegs (s : State) (c : CtrlWrite) :
    (s.putCtrl c).pendingRegs = s.pendingRegs := rfl
@[simp] theorem State.putCtrl_pendingBranches (s : State) (c : CtrlWrite) :
    (s.putCtrl c).pendingBranches = s.pendingBranches := rfl
@[simp] theorem State.putCtrl_branchShadow (s : State) (c : CtrlWrite) :
    (s.putCtrl c).branchShadow = s.branchShadow := rfl
@[simp] theorem State.putCtrl_pendingSat (s : State) (c : CtrlWrite) : (s.putCtrl c).pendingSat = s.pendingSat := rfl
@[simp] theorem State.putCtrl_pendingIfr (s : State) (c : CtrlWrite) : (s.putCtrl c).pendingIfr = s.pendingIfr := rfl
@[simp] theorem State.putCtrl_hold (s : State) (c : CtrlWrite) : (s.putCtrl c).hold = s.hold := rfl
@[simp] theorem State.putCtrl_intLatch (s : State) (c : CtrlWrite) : (s.putCtrl c).intLatch = s.intLatch := rfl
@[simp] theorem State.putCtrl_intHold (s : State) (c : CtrlWrite) : (s.putCtrl c).intHold = s.intHold := rfl
@[simp] theorem State.putCtrl_entering (s : State) (c : CtrlWrite) : (s.putCtrl c).entering = s.entering := rfl
@[simp] theorem State.putCtrl_iack (s : State) (c : CtrlWrite) : (s.putCtrl c).iack = s.iack := rfl
@[simp] theorem State.putCtrl_inum (s : State) (c : CtrlWrite) : (s.putCtrl c).inum = s.inum := rfl
@[simp] theorem State.putCtrl_power (s : State) (c : CtrlWrite) : (s.putCtrl c).power = s.power := rfl
@[simp] theorem State.putCtrl_launch (s : State) (c : CtrlWrite) : (s.putCtrl c).launch = s.launch := rfl
@[simp] theorem State.putCtrl_env (s : State) (c : CtrlWrite) : (s.putCtrl c).env = s.env := rfl
@[simp] theorem State.putCtrl_e1_regs (s : State) (c : CtrlWrite) : (s.putCtrl c).e1.regs = s.e1.regs := rfl
@[simp] theorem State.putCtrl_e1_late (s : State) (c : CtrlWrite) : (s.putCtrl c).e1.late = s.e1.late := rfl
@[simp] theorem State.putCtrl_e1_stores (s : State) (c : CtrlWrite) : (s.putCtrl c).e1.stores = s.e1.stores := rfl
@[simp] theorem State.putCtrl_e1_branch (s : State) (c : CtrlWrite) : (s.putCtrl c).e1.branch = s.e1.branch := rfl
@[simp] theorem State.putCtrl_e1_branchSeen (s : State) (c : CtrlWrite) :
    (s.putCtrl c).e1.branchSeen = s.e1.branchSeen := rfl
@[simp] theorem State.putCtrl_e1_sat (s : State) (c : CtrlWrite) : (s.putCtrl c).e1.sat = s.e1.sat := rfl
@[simp] theorem State.putCtrl_e1_ctrl (s : State) (c : CtrlWrite) : (s.putCtrl c).e1.ctrl = s.e1.ctrl ++ [c] := rfl
@[simp] theorem State.putCtrl_e1_hold (s : State) (c : CtrlWrite) : (s.putCtrl c).e1.hold = s.e1.hold := rfl
@[simp] theorem State.putCtrl_freeIdx (s : State) (c : CtrlWrite) : (s.putCtrl c).freeIdx = s.freeIdx := rfl

/-! ## A hold asked for -/

@[simp] theorem State.putHold_a (s : State) (h : Hold) : (s.putHold h).a = s.a := rfl
@[simp] theorem State.putHold_b (s : State) (h : Hold) : (s.putHold h).b = s.b := rfl
@[simp] theorem State.putHold_pc (s : State) (h : Hold) : (s.putHold h).pc = s.pc := rfl
@[simp] theorem State.putHold_amr (s : State) (h : Hold) : (s.putHold h).amr = s.amr := rfl
@[simp] theorem State.putHold_csr (s : State) (h : Hold) : (s.putHold h).csr = s.csr := rfl
@[simp] theorem State.putHold_ifr (s : State) (h : Hold) : (s.putHold h).ifr = s.ifr := rfl
@[simp] theorem State.putHold_ier (s : State) (h : Hold) : (s.putHold h).ier = s.ier := rfl
@[simp] theorem State.putHold_istb (s : State) (h : Hold) : (s.putHold h).istb = s.istb := rfl
@[simp] theorem State.putHold_irp (s : State) (h : Hold) : (s.putHold h).irp = s.irp := rfl
@[simp] theorem State.putHold_nrp (s : State) (h : Hold) : (s.putHold h).nrp = s.nrp := rfl
@[simp] theorem State.putHold_mem (s : State) (h : Hold) : (s.putHold h).mem = s.mem := rfl
@[simp] theorem State.putHold_prog (s : State) (h : Hold) : (s.putHold h).prog = s.prog := rfl
@[simp] theorem State.putHold_pendingRegs (s : State) (h : Hold) : (s.putHold h).pendingRegs = s.pendingRegs := rfl
@[simp] theorem State.putHold_pendingBranches (s : State) (h : Hold) :
    (s.putHold h).pendingBranches = s.pendingBranches := rfl
@[simp] theorem State.putHold_branchShadow (s : State) (h : Hold) : (s.putHold h).branchShadow = s.branchShadow := rfl
@[simp] theorem State.putHold_pendingSat (s : State) (h : Hold) : (s.putHold h).pendingSat = s.pendingSat := rfl
@[simp] theorem State.putHold_pendingIfr (s : State) (h : Hold) : (s.putHold h).pendingIfr = s.pendingIfr := rfl
@[simp] theorem State.putHold_hold (s : State) (h : Hold) : (s.putHold h).hold = s.hold := rfl
@[simp] theorem State.putHold_intLatch (s : State) (h : Hold) : (s.putHold h).intLatch = s.intLatch := rfl
@[simp] theorem State.putHold_intHold (s : State) (h : Hold) : (s.putHold h).intHold = s.intHold := rfl
@[simp] theorem State.putHold_entering (s : State) (h : Hold) : (s.putHold h).entering = s.entering := rfl
@[simp] theorem State.putHold_iack (s : State) (h : Hold) : (s.putHold h).iack = s.iack := rfl
@[simp] theorem State.putHold_inum (s : State) (h : Hold) : (s.putHold h).inum = s.inum := rfl
@[simp] theorem State.putHold_power (s : State) (h : Hold) : (s.putHold h).power = s.power := rfl
@[simp] theorem State.putHold_launch (s : State) (h : Hold) : (s.putHold h).launch = s.launch := rfl
@[simp] theorem State.putHold_env (s : State) (h : Hold) : (s.putHold h).env = s.env := rfl
@[simp] theorem State.putHold_e1_regs (s : State) (h : Hold) : (s.putHold h).e1.regs = s.e1.regs := rfl
@[simp] theorem State.putHold_e1_late (s : State) (h : Hold) : (s.putHold h).e1.late = s.e1.late := rfl
@[simp] theorem State.putHold_e1_stores (s : State) (h : Hold) : (s.putHold h).e1.stores = s.e1.stores := rfl
@[simp] theorem State.putHold_e1_branch (s : State) (h : Hold) : (s.putHold h).e1.branch = s.e1.branch := rfl
@[simp] theorem State.putHold_e1_branchSeen (s : State) (h : Hold) :
    (s.putHold h).e1.branchSeen = s.e1.branchSeen := rfl
@[simp] theorem State.putHold_e1_sat (s : State) (h : Hold) : (s.putHold h).e1.sat = s.e1.sat := rfl
@[simp] theorem State.putHold_e1_ctrl (s : State) (h : Hold) : (s.putHold h).e1.ctrl = s.e1.ctrl := rfl
@[simp] theorem State.putHold_e1_hold (s : State) (h : Hold) : (s.putHold h).e1.hold = s.e1.hold.max h := rfl
@[simp] theorem State.putHold_freeIdx (s : State) (h : Hold) : (s.putHold h).freeIdx = s.freeIdx := rfl

/-! ## A branch seen -/

@[simp] theorem State.noteBranch_a (s : State) : (s.noteBranch).a = s.a := rfl
@[simp] theorem State.noteBranch_b (s : State) : (s.noteBranch).b = s.b := rfl
@[simp] theorem State.noteBranch_pc (s : State) : (s.noteBranch).pc = s.pc := rfl
@[simp] theorem State.noteBranch_amr (s : State) : (s.noteBranch).amr = s.amr := rfl
@[simp] theorem State.noteBranch_csr (s : State) : (s.noteBranch).csr = s.csr := rfl
@[simp] theorem State.noteBranch_ifr (s : State) : (s.noteBranch).ifr = s.ifr := rfl
@[simp] theorem State.noteBranch_ier (s : State) : (s.noteBranch).ier = s.ier := rfl
@[simp] theorem State.noteBranch_istb (s : State) : (s.noteBranch).istb = s.istb := rfl
@[simp] theorem State.noteBranch_irp (s : State) : (s.noteBranch).irp = s.irp := rfl
@[simp] theorem State.noteBranch_nrp (s : State) : (s.noteBranch).nrp = s.nrp := rfl
@[simp] theorem State.noteBranch_mem (s : State) : (s.noteBranch).mem = s.mem := rfl
@[simp] theorem State.noteBranch_prog (s : State) : (s.noteBranch).prog = s.prog := rfl
@[simp] theorem State.noteBranch_pendingRegs (s : State) : (s.noteBranch).pendingRegs = s.pendingRegs := rfl
@[simp] theorem State.noteBranch_pendingBranches (s : State) :
    (s.noteBranch).pendingBranches = s.pendingBranches := rfl
@[simp] theorem State.noteBranch_branchShadow (s : State) : (s.noteBranch).branchShadow = s.branchShadow := rfl
@[simp] theorem State.noteBranch_pendingSat (s : State) : (s.noteBranch).pendingSat = s.pendingSat := rfl
@[simp] theorem State.noteBranch_pendingIfr (s : State) : (s.noteBranch).pendingIfr = s.pendingIfr := rfl
@[simp] theorem State.noteBranch_hold (s : State) : (s.noteBranch).hold = s.hold := rfl
@[simp] theorem State.noteBranch_intLatch (s : State) : (s.noteBranch).intLatch = s.intLatch := rfl
@[simp] theorem State.noteBranch_intHold (s : State) : (s.noteBranch).intHold = s.intHold := rfl
@[simp] theorem State.noteBranch_entering (s : State) : (s.noteBranch).entering = s.entering := rfl
@[simp] theorem State.noteBranch_iack (s : State) : (s.noteBranch).iack = s.iack := rfl
@[simp] theorem State.noteBranch_inum (s : State) : (s.noteBranch).inum = s.inum := rfl
@[simp] theorem State.noteBranch_power (s : State) : (s.noteBranch).power = s.power := rfl
@[simp] theorem State.noteBranch_launch (s : State) : (s.noteBranch).launch = s.launch := rfl
@[simp] theorem State.noteBranch_env (s : State) : (s.noteBranch).env = s.env := rfl
@[simp] theorem State.noteBranch_e1_regs (s : State) : (s.noteBranch).e1.regs = s.e1.regs := rfl
@[simp] theorem State.noteBranch_e1_late (s : State) : (s.noteBranch).e1.late = s.e1.late := rfl
@[simp] theorem State.noteBranch_e1_stores (s : State) : (s.noteBranch).e1.stores = s.e1.stores := rfl
@[simp] theorem State.noteBranch_e1_branch (s : State) : (s.noteBranch).e1.branch = s.e1.branch := rfl
@[simp] theorem State.noteBranch_e1_branchSeen (s : State) : (s.noteBranch).e1.branchSeen = true := rfl
@[simp] theorem State.noteBranch_e1_sat (s : State) : (s.noteBranch).e1.sat = s.e1.sat := rfl
@[simp] theorem State.noteBranch_e1_ctrl (s : State) : (s.noteBranch).e1.ctrl = s.e1.ctrl := rfl
@[simp] theorem State.noteBranch_e1_hold (s : State) : (s.noteBranch).e1.hold = s.e1.hold := rfl
@[simp] theorem State.noteBranch_freeIdx (s : State) : (s.noteBranch).freeIdx = s.freeIdx := rfl

/-! ## A free value drawn -/

@[simp] theorem State.drawn_a (s : State) : (s.drawn).a = s.a := rfl
@[simp] theorem State.drawn_b (s : State) : (s.drawn).b = s.b := rfl
@[simp] theorem State.drawn_pc (s : State) : (s.drawn).pc = s.pc := rfl
@[simp] theorem State.drawn_amr (s : State) : (s.drawn).amr = s.amr := rfl
@[simp] theorem State.drawn_csr (s : State) : (s.drawn).csr = s.csr := rfl
@[simp] theorem State.drawn_ifr (s : State) : (s.drawn).ifr = s.ifr := rfl
@[simp] theorem State.drawn_ier (s : State) : (s.drawn).ier = s.ier := rfl
@[simp] theorem State.drawn_istb (s : State) : (s.drawn).istb = s.istb := rfl
@[simp] theorem State.drawn_irp (s : State) : (s.drawn).irp = s.irp := rfl
@[simp] theorem State.drawn_nrp (s : State) : (s.drawn).nrp = s.nrp := rfl
@[simp] theorem State.drawn_mem (s : State) : (s.drawn).mem = s.mem := rfl
@[simp] theorem State.drawn_prog (s : State) : (s.drawn).prog = s.prog := rfl
@[simp] theorem State.drawn_pendingRegs (s : State) : (s.drawn).pendingRegs = s.pendingRegs := rfl
@[simp] theorem State.drawn_pendingBranches (s : State) : (s.drawn).pendingBranches = s.pendingBranches := rfl
@[simp] theorem State.drawn_branchShadow (s : State) : (s.drawn).branchShadow = s.branchShadow := rfl
@[simp] theorem State.drawn_pendingSat (s : State) : (s.drawn).pendingSat = s.pendingSat := rfl
@[simp] theorem State.drawn_pendingIfr (s : State) : (s.drawn).pendingIfr = s.pendingIfr := rfl
@[simp] theorem State.drawn_hold (s : State) : (s.drawn).hold = s.hold := rfl
@[simp] theorem State.drawn_intLatch (s : State) : (s.drawn).intLatch = s.intLatch := rfl
@[simp] theorem State.drawn_intHold (s : State) : (s.drawn).intHold = s.intHold := rfl
@[simp] theorem State.drawn_entering (s : State) : (s.drawn).entering = s.entering := rfl
@[simp] theorem State.drawn_iack (s : State) : (s.drawn).iack = s.iack := rfl
@[simp] theorem State.drawn_inum (s : State) : (s.drawn).inum = s.inum := rfl
@[simp] theorem State.drawn_power (s : State) : (s.drawn).power = s.power := rfl
@[simp] theorem State.drawn_launch (s : State) : (s.drawn).launch = s.launch := rfl
@[simp] theorem State.drawn_env (s : State) : (s.drawn).env = s.env := rfl
@[simp] theorem State.drawn_e1 (s : State) : (s.drawn).e1 = s.e1 := rfl
@[simp] theorem State.drawn_freeIdx (s : State) : (s.drawn).freeIdx = s.freeIdx + 1 := rfl

/-! ## The environment's entry taken -/

@[simp] theorem State.takeEnv_a (s : State) : (s.takeEnv).a = s.a := rfl
@[simp] theorem State.takeEnv_b (s : State) : (s.takeEnv).b = s.b := rfl
@[simp] theorem State.takeEnv_pc (s : State) : (s.takeEnv).pc = s.pc := rfl
@[simp] theorem State.takeEnv_amr (s : State) : (s.takeEnv).amr = s.amr := rfl
@[simp] theorem State.takeEnv_csr (s : State) : (s.takeEnv).csr = s.csr := rfl
@[simp] theorem State.takeEnv_ifr (s : State) : (s.takeEnv).ifr = s.ifr := rfl
@[simp] theorem State.takeEnv_ier (s : State) : (s.takeEnv).ier = s.ier := rfl
@[simp] theorem State.takeEnv_istb (s : State) : (s.takeEnv).istb = s.istb := rfl
@[simp] theorem State.takeEnv_irp (s : State) : (s.takeEnv).irp = s.irp := rfl
@[simp] theorem State.takeEnv_nrp (s : State) : (s.takeEnv).nrp = s.nrp := rfl
@[simp] theorem State.takeEnv_mem (s : State) : (s.takeEnv).mem = s.mem := rfl
@[simp] theorem State.takeEnv_prog (s : State) : (s.takeEnv).prog = s.prog := rfl
@[simp] theorem State.takeEnv_pendingRegs (s : State) : (s.takeEnv).pendingRegs = s.pendingRegs := rfl
@[simp] theorem State.takeEnv_pendingBranches (s : State) : (s.takeEnv).pendingBranches = s.pendingBranches := rfl
@[simp] theorem State.takeEnv_branchShadow (s : State) : (s.takeEnv).branchShadow = s.branchShadow := rfl
@[simp] theorem State.takeEnv_pendingSat (s : State) : (s.takeEnv).pendingSat = s.pendingSat := rfl
@[simp] theorem State.takeEnv_pendingIfr (s : State) : (s.takeEnv).pendingIfr = s.pendingIfr := rfl
@[simp] theorem State.takeEnv_hold (s : State) : (s.takeEnv).hold = s.hold := rfl
@[simp] theorem State.takeEnv_intLatch (s : State) :
    (s.takeEnv).intLatch = s.intLatch ||| (s.envNow.arrive &&& interruptMask) := rfl
@[simp] theorem State.takeEnv_intHold (s : State) : (s.takeEnv).intHold = s.intHold := rfl
@[simp] theorem State.takeEnv_entering (s : State) : (s.takeEnv).entering = s.entering := rfl
@[simp] theorem State.takeEnv_iack (s : State) : (s.takeEnv).iack = s.iack := rfl
@[simp] theorem State.takeEnv_inum (s : State) : (s.takeEnv).inum = s.inum := rfl
@[simp] theorem State.takeEnv_power (s : State) : (s.takeEnv).power = s.power := rfl
@[simp] theorem State.takeEnv_launch (s : State) : (s.takeEnv).launch = s.launch := rfl
@[simp] theorem State.takeEnv_env (s : State) : (s.takeEnv).env = s.env.tail := rfl
@[simp] theorem State.takeEnv_e1 (s : State) : (s.takeEnv).e1 = s.e1 := rfl
@[simp] theorem State.takeEnv_freeIdx (s : State) : (s.takeEnv).freeIdx = s.freeIdx := rfl

/-! ## The stores of the packet -/

@[simp] theorem State.commitStores_a (s : State) : (s.commitStores).a = s.a := rfl
@[simp] theorem State.commitStores_b (s : State) : (s.commitStores).b = s.b := rfl
@[simp] theorem State.commitStores_pc (s : State) : (s.commitStores).pc = s.pc := rfl
@[simp] theorem State.commitStores_amr (s : State) : (s.commitStores).amr = s.amr := rfl
@[simp] theorem State.commitStores_csr (s : State) : (s.commitStores).csr = s.csr := rfl
@[simp] theorem State.commitStores_ifr (s : State) : (s.commitStores).ifr = s.ifr := rfl
@[simp] theorem State.commitStores_ier (s : State) : (s.commitStores).ier = s.ier := rfl
@[simp] theorem State.commitStores_istb (s : State) : (s.commitStores).istb = s.istb := rfl
@[simp] theorem State.commitStores_irp (s : State) : (s.commitStores).irp = s.irp := rfl
@[simp] theorem State.commitStores_nrp (s : State) : (s.commitStores).nrp = s.nrp := rfl
@[simp] theorem State.commitStores_mem (s : State) : (s.commitStores).mem = s.mem.writeAll s.e1.stores := rfl
@[simp] theorem State.commitStores_prog (s : State) : (s.commitStores).prog = s.prog := rfl
@[simp] theorem State.commitStores_pendingRegs (s : State) : (s.commitStores).pendingRegs = s.pendingRegs := rfl
@[simp] theorem State.commitStores_pendingBranches (s : State) :
    (s.commitStores).pendingBranches = s.pendingBranches := rfl
@[simp] theorem State.commitStores_branchShadow (s : State) : (s.commitStores).branchShadow = s.branchShadow := rfl
@[simp] theorem State.commitStores_pendingSat (s : State) : (s.commitStores).pendingSat = s.pendingSat := rfl
@[simp] theorem State.commitStores_pendingIfr (s : State) : (s.commitStores).pendingIfr = s.pendingIfr := rfl
@[simp] theorem State.commitStores_hold (s : State) : (s.commitStores).hold = s.hold := rfl
@[simp] theorem State.commitStores_intLatch (s : State) : (s.commitStores).intLatch = s.intLatch := rfl
@[simp] theorem State.commitStores_intHold (s : State) : (s.commitStores).intHold = s.intHold := rfl
@[simp] theorem State.commitStores_entering (s : State) : (s.commitStores).entering = s.entering := rfl
@[simp] theorem State.commitStores_iack (s : State) : (s.commitStores).iack = s.iack := rfl
@[simp] theorem State.commitStores_inum (s : State) : (s.commitStores).inum = s.inum := rfl
@[simp] theorem State.commitStores_power (s : State) : (s.commitStores).power = s.power := rfl
@[simp] theorem State.commitStores_launch (s : State) : (s.commitStores).launch = s.launch := rfl
@[simp] theorem State.commitStores_env (s : State) : (s.commitStores).env = s.env := rfl
@[simp] theorem State.commitStores_e1 (s : State) : (s.commitStores).e1 = s.e1 := rfl
@[simp] theorem State.commitStores_freeIdx (s : State) : (s.commitStores).freeIdx = s.freeIdx := rfl

/-! ## The flag update -/

@[simp] theorem State.updateFlags_a (s : State) : (s.updateFlags).a = s.a := rfl
@[simp] theorem State.updateFlags_b (s : State) : (s.updateFlags).b = s.b := rfl
@[simp] theorem State.updateFlags_pc (s : State) : (s.updateFlags).pc = s.pc := rfl
@[simp] theorem State.updateFlags_amr (s : State) : (s.updateFlags).amr = s.amr := rfl
@[simp] theorem State.updateFlags_csr (s : State) : (s.updateFlags).csr = s.csr := rfl
@[simp] theorem State.updateFlags_ifr (s : State) : (s.updateFlags).ifr = s.nextIfr := rfl
@[simp] theorem State.updateFlags_ier (s : State) : (s.updateFlags).ier = s.ier := rfl
@[simp] theorem State.updateFlags_istb (s : State) : (s.updateFlags).istb = s.istb := rfl
@[simp] theorem State.updateFlags_irp (s : State) : (s.updateFlags).irp = s.irp := rfl
@[simp] theorem State.updateFlags_nrp (s : State) : (s.updateFlags).nrp = s.nrp := rfl
@[simp] theorem State.updateFlags_mem (s : State) : (s.updateFlags).mem = s.mem := rfl
@[simp] theorem State.updateFlags_prog (s : State) : (s.updateFlags).prog = s.prog := rfl
@[simp] theorem State.updateFlags_pendingRegs (s : State) : (s.updateFlags).pendingRegs = s.pendingRegs := rfl
@[simp] theorem State.updateFlags_pendingBranches (s : State) :
    (s.updateFlags).pendingBranches = s.pendingBranches := rfl
@[simp] theorem State.updateFlags_branchShadow (s : State) : (s.updateFlags).branchShadow = s.branchShadow := rfl
@[simp] theorem State.updateFlags_pendingSat (s : State) : (s.updateFlags).pendingSat = s.pendingSat := rfl
@[simp] theorem State.updateFlags_pendingIfr (s : State) : (s.updateFlags).pendingIfr = {} := rfl
@[simp] theorem State.updateFlags_hold (s : State) : (s.updateFlags).hold = s.hold := rfl
@[simp] theorem State.updateFlags_intLatch (s : State) : (s.updateFlags).intLatch = 0 := rfl
@[simp] theorem State.updateFlags_intHold (s : State) : (s.updateFlags).intHold = s.intHold := rfl
@[simp] theorem State.updateFlags_entering (s : State) : (s.updateFlags).entering = s.entering := rfl
@[simp] theorem State.updateFlags_iack (s : State) : (s.updateFlags).iack = decide (s.intHold = 6) := rfl
@[simp] theorem State.updateFlags_inum (s : State) :
    (s.updateFlags).inum = if s.intHold = 6 then s.entering else 0 := rfl
@[simp] theorem State.updateFlags_power (s : State) : (s.updateFlags).power = s.power := rfl
@[simp] theorem State.updateFlags_launch (s : State) : (s.updateFlags).launch = s.launch := rfl
@[simp] theorem State.updateFlags_env (s : State) : (s.updateFlags).env = s.env := rfl
@[simp] theorem State.updateFlags_e1 (s : State) : (s.updateFlags).e1 = s.e1 := rfl
@[simp] theorem State.updateFlags_freeIdx (s : State) : (s.updateFlags).freeIdx = s.freeIdx := rfl

/-! ## The SAT update -/

@[simp] theorem State.updateSat_a (s : State) : (s.updateSat).a = s.a := rfl
@[simp] theorem State.updateSat_b (s : State) : (s.updateSat).b = s.b := rfl
@[simp] theorem State.updateSat_pc (s : State) : (s.updateSat).pc = s.pc := rfl
@[simp] theorem State.updateSat_amr (s : State) : (s.updateSat).amr = s.amr := rfl
@[simp] theorem State.updateSat_csr (s : State) :
    (s.updateSat).csr = if s.pendingSat.any due then setBit s.csr 9 true else s.csr := rfl
@[simp] theorem State.updateSat_ifr (s : State) : (s.updateSat).ifr = s.ifr := rfl
@[simp] theorem State.updateSat_ier (s : State) : (s.updateSat).ier = s.ier := rfl
@[simp] theorem State.updateSat_istb (s : State) : (s.updateSat).istb = s.istb := rfl
@[simp] theorem State.updateSat_irp (s : State) : (s.updateSat).irp = s.irp := rfl
@[simp] theorem State.updateSat_nrp (s : State) : (s.updateSat).nrp = s.nrp := rfl
@[simp] theorem State.updateSat_mem (s : State) : (s.updateSat).mem = s.mem := rfl
@[simp] theorem State.updateSat_prog (s : State) : (s.updateSat).prog = s.prog := rfl
@[simp] theorem State.updateSat_pendingRegs (s : State) : (s.updateSat).pendingRegs = s.pendingRegs := rfl
@[simp] theorem State.updateSat_pendingBranches (s : State) : (s.updateSat).pendingBranches = s.pendingBranches := rfl
@[simp] theorem State.updateSat_branchShadow (s : State) : (s.updateSat).branchShadow = s.branchShadow := rfl
@[simp] theorem State.updateSat_pendingSat (s : State) :
    (s.updateSat).pendingSat = ((s.pendingSat.filter (fun n => !due n)).map (· - 1)) ++ s.e1.sat := rfl
@[simp] theorem State.updateSat_pendingIfr (s : State) : (s.updateSat).pendingIfr = s.pendingIfr := rfl
@[simp] theorem State.updateSat_hold (s : State) : (s.updateSat).hold = s.hold := rfl
@[simp] theorem State.updateSat_intLatch (s : State) : (s.updateSat).intLatch = s.intLatch := rfl
@[simp] theorem State.updateSat_intHold (s : State) : (s.updateSat).intHold = s.intHold := rfl
@[simp] theorem State.updateSat_entering (s : State) : (s.updateSat).entering = s.entering := rfl
@[simp] theorem State.updateSat_iack (s : State) : (s.updateSat).iack = s.iack := rfl
@[simp] theorem State.updateSat_inum (s : State) : (s.updateSat).inum = s.inum := rfl
@[simp] theorem State.updateSat_power (s : State) : (s.updateSat).power = s.power := rfl
@[simp] theorem State.updateSat_launch (s : State) : (s.updateSat).launch = s.launch := rfl
@[simp] theorem State.updateSat_env (s : State) : (s.updateSat).env = s.env := rfl
@[simp] theorem State.updateSat_e1 (s : State) : (s.updateSat).e1 = s.e1 := rfl
@[simp] theorem State.updateSat_freeIdx (s : State) : (s.updateSat).freeIdx = s.freeIdx := rfl

/-! ## The end of a power-down -/

@[simp] theorem State.wakeUp_a (s : State) : (s.wakeUp).a = s.a := rfl
@[simp] theorem State.wakeUp_b (s : State) : (s.wakeUp).b = s.b := rfl
@[simp] theorem State.wakeUp_pc (s : State) : (s.wakeUp).pc = s.pc := rfl
@[simp] theorem State.wakeUp_amr (s : State) : (s.wakeUp).amr = s.amr := rfl
@[simp] theorem State.wakeUp_csr (s : State) :
    (s.wakeUp).csr = if s.freeBit then s.csr else s.csr &&& 0xFFFF03FF := rfl
@[simp] theorem State.wakeUp_ifr (s : State) : (s.wakeUp).ifr = s.ifr := rfl
@[simp] theorem State.wakeUp_ier (s : State) : (s.wakeUp).ier = s.ier := rfl
@[simp] theorem State.wakeUp_istb (s : State) : (s.wakeUp).istb = s.istb := rfl
@[simp] theorem State.wakeUp_irp (s : State) : (s.wakeUp).irp = s.irp := rfl
@[simp] theorem State.wakeUp_nrp (s : State) : (s.wakeUp).nrp = s.nrp := rfl
@[simp] theorem State.wakeUp_mem (s : State) : (s.wakeUp).mem = s.mem := rfl
@[simp] theorem State.wakeUp_prog (s : State) : (s.wakeUp).prog = s.prog := rfl
@[simp] theorem State.wakeUp_pendingRegs (s : State) : (s.wakeUp).pendingRegs = s.pendingRegs := rfl
@[simp] theorem State.wakeUp_pendingBranches (s : State) : (s.wakeUp).pendingBranches = s.pendingBranches := rfl
@[simp] theorem State.wakeUp_branchShadow (s : State) : (s.wakeUp).branchShadow = s.branchShadow := rfl
@[simp] theorem State.wakeUp_pendingSat (s : State) : (s.wakeUp).pendingSat = s.pendingSat := rfl
@[simp] theorem State.wakeUp_pendingIfr (s : State) : (s.wakeUp).pendingIfr = s.pendingIfr := rfl
@[simp] theorem State.wakeUp_hold (s : State) : (s.wakeUp).hold = s.hold := rfl
@[simp] theorem State.wakeUp_intLatch (s : State) : (s.wakeUp).intLatch = s.intLatch := rfl
@[simp] theorem State.wakeUp_intHold (s : State) : (s.wakeUp).intHold = s.intHold := rfl
@[simp] theorem State.wakeUp_entering (s : State) : (s.wakeUp).entering = s.entering := rfl
@[simp] theorem State.wakeUp_iack (s : State) : (s.wakeUp).iack = s.iack := rfl
@[simp] theorem State.wakeUp_inum (s : State) : (s.wakeUp).inum = s.inum := rfl
@[simp] theorem State.wakeUp_power (s : State) : (s.wakeUp).power = .none := rfl
@[simp] theorem State.wakeUp_launch (s : State) : (s.wakeUp).launch = s.launch := rfl
@[simp] theorem State.wakeUp_env (s : State) : (s.wakeUp).env = s.env := rfl
@[simp] theorem State.wakeUp_e1 (s : State) : (s.wakeUp).e1 = s.e1 := rfl
@[simp] theorem State.wakeUp_freeIdx (s : State) : (s.wakeUp).freeIdx = s.freeIdx + 1 := rfl

/-! ## A register written -/

@[simp] theorem State.writeReg_pc (s : State) (w : RegWrite) : (s.writeReg w).pc = s.pc := by
  unfold State.writeReg; split <;> rfl
@[simp] theorem State.writeReg_amr (s : State) (w : RegWrite) : (s.writeReg w).amr = s.amr := by
  unfold State.writeReg; split <;> rfl
@[simp] theorem State.writeReg_csr (s : State) (w : RegWrite) : (s.writeReg w).csr = s.csr := by
  unfold State.writeReg; split <;> rfl
@[simp] theorem State.writeReg_ifr (s : State) (w : RegWrite) : (s.writeReg w).ifr = s.ifr := by
  unfold State.writeReg; split <;> rfl
@[simp] theorem State.writeReg_ier (s : State) (w : RegWrite) : (s.writeReg w).ier = s.ier := by
  unfold State.writeReg; split <;> rfl
@[simp] theorem State.writeReg_istb (s : State) (w : RegWrite) : (s.writeReg w).istb = s.istb := by
  unfold State.writeReg; split <;> rfl
@[simp] theorem State.writeReg_irp (s : State) (w : RegWrite) : (s.writeReg w).irp = s.irp := by
  unfold State.writeReg; split <;> rfl
@[simp] theorem State.writeReg_nrp (s : State) (w : RegWrite) : (s.writeReg w).nrp = s.nrp := by
  unfold State.writeReg; split <;> rfl
@[simp] theorem State.writeReg_mem (s : State) (w : RegWrite) : (s.writeReg w).mem = s.mem := by
  unfold State.writeReg; split <;> rfl
@[simp] theorem State.writeReg_prog (s : State) (w : RegWrite) : (s.writeReg w).prog = s.prog := by
  unfold State.writeReg; split <;> rfl
@[simp] theorem State.writeReg_pendingRegs (s : State) (w : RegWrite) : (s.writeReg w).pendingRegs = s.pendingRegs := by
  unfold State.writeReg; split <;> rfl
@[simp] theorem State.writeReg_pendingBranches (s : State) (w : RegWrite) : (s.writeReg w).pendingBranches = s.pendingBranches := by
  unfold State.writeReg; split <;> rfl
@[simp] theorem State.writeReg_branchShadow (s : State) (w : RegWrite) : (s.writeReg w).branchShadow = s.branchShadow := by
  unfold State.writeReg; split <;> rfl
@[simp] theorem State.writeReg_pendingSat (s : State) (w : RegWrite) : (s.writeReg w).pendingSat = s.pendingSat := by
  unfold State.writeReg; split <;> rfl
@[simp] theorem State.writeReg_pendingIfr (s : State) (w : RegWrite) : (s.writeReg w).pendingIfr = s.pendingIfr := by
  unfold State.writeReg; split <;> rfl
@[simp] theorem State.writeReg_hold (s : State) (w : RegWrite) : (s.writeReg w).hold = s.hold := by
  unfold State.writeReg; split <;> rfl
@[simp] theorem State.writeReg_intLatch (s : State) (w : RegWrite) : (s.writeReg w).intLatch = s.intLatch := by
  unfold State.writeReg; split <;> rfl
@[simp] theorem State.writeReg_intHold (s : State) (w : RegWrite) : (s.writeReg w).intHold = s.intHold := by
  unfold State.writeReg; split <;> rfl
@[simp] theorem State.writeReg_entering (s : State) (w : RegWrite) : (s.writeReg w).entering = s.entering := by
  unfold State.writeReg; split <;> rfl
@[simp] theorem State.writeReg_iack (s : State) (w : RegWrite) : (s.writeReg w).iack = s.iack := by
  unfold State.writeReg; split <;> rfl
@[simp] theorem State.writeReg_inum (s : State) (w : RegWrite) : (s.writeReg w).inum = s.inum := by
  unfold State.writeReg; split <;> rfl
@[simp] theorem State.writeReg_power (s : State) (w : RegWrite) : (s.writeReg w).power = s.power := by
  unfold State.writeReg; split <;> rfl
@[simp] theorem State.writeReg_launch (s : State) (w : RegWrite) : (s.writeReg w).launch = s.launch := by
  unfold State.writeReg; split <;> rfl
@[simp] theorem State.writeReg_env (s : State) (w : RegWrite) : (s.writeReg w).env = s.env := by
  unfold State.writeReg; split <;> rfl
@[simp] theorem State.writeReg_e1 (s : State) (w : RegWrite) : (s.writeReg w).e1 = s.e1 := by
  unfold State.writeReg; split <;> rfl
@[simp] theorem State.writeReg_freeIdx (s : State) (w : RegWrite) : (s.writeReg w).freeIdx = s.freeIdx := by
  unfold State.writeReg; split <;> rfl

end Sys2Proof.Machine
end

