-- ==== Sys2Proof/Laws/Ops.lean ====
section
/-! SUPPORT. For each shared operation, once, everything it can do when it answers. -/

namespace Sys2Proof.Machine

/-! ## Outcomes -/

theorem outcome_next {e : Except Stop State} {t : State} : outcome e = .next t ↔ e = .ok t := by
  cases e with
  | ok s => simp [outcome]
  | error e => cases e <;> simp [outcome]

@[simp] theorem outcome_ok (t : State) : outcome (.ok t) = .next t := rfl

theorem onCond_next {s t : State} {c : Cond} {k : Out} :
    s.onCond c k = .next t ↔ (s.holds c = true ∧ k = .next t) ∨ (s.holds c = false ∧ t = s) := by
  unfold State.onCond
  cases s.holds c <;> simp [eq_comm]

theorem onCond_holds {s : State} {c : Cond} (k : Out) (h : s.holds c = true) : s.onCond c k = k := by
  simp [State.onCond, h]

theorem onCond_not {s : State} {c : Cond} (k : Out) (h : s.holds c = false) : s.onCond c k = .next s := by
  simp [State.onCond, h]

/-- A conditional that completes either way, as one state. -/
theorem onCond_next_eq (s t : State) (c : Cond) :
    s.onCond c (.next t) = .next (if s.holds c = true then t else s) := by
  unfold State.onCond; split <;> rfl

/-- A computation that answers, taken apart. -/
theorem bind_ok {α β : Type} {x : Except Stop α} {f : α → Except Stop β} {b : β} :
    (x >>= f) = .ok b ↔ ∃ a, x = .ok a ∧ f a = .ok b := by
  cases x <;> simp [bind, Except.bind]

/-! ## Registers -/

theorem reg_congr {s t : State} (ha : t.a = s.a) (hb : t.b = s.b) (d : Side) (f : BitVec 5) : t.reg d f = s.reg d f := by
  cases d <;> simp [State.reg, State.file, ha, hb]

@[simp] theorem reg_putReg (s : State) (d e : Side) (f g : BitVec 5) (v : Word) : (s.putReg d f v).reg e g = s.reg e g :=
  reg_congr rfl rfl e g

@[simp] theorem reg_drawn (s : State) (e : Side) (g : BitVec 5) : s.drawn.reg e g = s.reg e g :=
  reg_congr rfl rfl e g

@[simp] theorem reg_takeEnv (s : State) (e : Side) (g : BitVec 5) : s.takeEnv.reg e g = s.reg e g :=
  reg_congr rfl rfl e g

/-- A register just written. -/
theorem read_write_same (f : RegFile) (n : BitVec 4) (v : Word) : (f.write n v).read n = v := by
  simp [RegFile.read, RegFile.write]

/-- Every other register. -/
theorem read_write_other (f : RegFile) (n m : BitVec 4) (v : Word) (h : m ≠ n) : (f.write n v).read m = f.read m := by
  have : n.toNat ≠ m.toNat := fun e => h (BitVec.eq_of_toNat_eq e.symm)
  simp [RegFile.read, RegFile.write, this]

/-- One register write, seen through one register. -/
theorem file_writeReg (s : State) (w : RegWrite) (d : Side) (n : BitVec 4) :
    ((s.writeReg w).file d).read n = if w.target = (d, n) then w.value else (s.file d).read n := by
  obtain ⟨wd, wn, wv⟩ := w
  cases wd <;> cases d <;>
    simp [State.writeReg, State.file, RegWrite.target] <;>
    by_cases h : wn = n <;> simp [h, read_write_same, read_write_other, Ne.symm]

/-- A list of register writes no two of which go to one register, seen through one register. -/
theorem file_writeRegs (ws : List RegWrite) (s : State) (d : Side) (n : BitVec 4)
    (h : hasTwice (ws.map RegWrite.target) = false) :
    ((ws.foldl State.writeReg s).file d).read n
      = ((ws.find? (fun w => w.target == (d, n))).map RegWrite.value).getD ((s.file d).read n) := by
  induction ws generalizing s with
  | nil => rfl
  | cons w ws ih =>
    simp only [List.map_cons, hasTwice, Bool.or_eq_false_iff, decide_eq_false_iff_not] at h
    rw [List.foldl_cons, ih _ h.2, List.find?_cons]
    by_cases hw : w.target = (d, n)
    · have : ws.find? (fun w => w.target == (d, n)) = none := by
        rw [List.find?_eq_none]
        intro x hx he
        exact h.1 (hw ▸ (beq_iff_eq.mp he) ▸ List.mem_map_of_mem hx)
      simp [this, file_writeReg, hw]
    · have : (w.target == (d, n)) = false := by simpa using hw
      simp [file_writeReg, hw, this]

/-! ## Results -/

theorem set32_eq (s : State) (o : Ops3) (v : Word) :
    set32 s o v = .next (if s.holds o.cond = true then s.putReg o.side o.dst v else s) := onCond_next_eq ..

theorem set40_eq (s : State) (o : Ops3) (v : Long) :
    set40 s o v = .next (if s.holds o.cond = true then s.putLong o.side o.dst v else s) := onCond_next_eq ..

theorem setFree_eq (s : State) (o : Ops3) :
    setFree s o = .next (if s.holds o.cond = true then s.drawn.putReg o.side o.dst s.freeWord else s) :=
  onCond_next_eq ..

theorem setD_eq (s : State) (o : OpsD) (v : Word) :
    setD s o v = .next (if s.holds o.cond = true then s.putReg o.side o.dst v else s) := onCond_next_eq ..

theorem setK_eq (s : State) (o : OpsK) (v : Word) :
    setK s o v = .next (if s.holds o.cond = true then s.putReg o.side o.dst v else s) := onCond_next_eq ..

theorem setTruth_eq (s : State) (o : Ops3) (c : Bool) :
    setTruth s o c = .next (if s.holds o.cond = true then s.putReg o.side o.dst (if c then 1 else 0) else s) :=
  set32_eq ..

theorem setProduct_eq (s : State) (o : Ops3) (p : Int) :
    setProduct s o p
      = .next (if s.holds o.cond = true then s.putLate o.side o.dst (BitVec.ofInt 32 p) 1 else s) :=
  onCond_next_eq ..

theorem setDouble_eq (s : State) (o : Ops3) (p : Int) :
    setDouble s o p = .next (if s.holds o.cond = true then putSatLate s o.side o.dst (2 * p) else s) :=
  onCond_next_eq ..

/-! ## Saturation -/

theorem clamp_inside (n : Nat) (v : Int) (h : -2 ^ (n - 1) ≤ v) (h' : v ≤ 2 ^ (n - 1) - 1) : clamp n v = v := by
  unfold clamp; split
  · omega
  · split <;> omega

theorem clamp_above (n : Nat) (v : Int) (h : 2 ^ (n - 1) - 1 < v) : clamp n v = 2 ^ (n - 1) - 1 := by
  unfold clamp; simp [h]

theorem clamp_below (n : Nat) (v : Int) (h : v < -2 ^ (n - 1)) : clamp n v = -2 ^ (n - 1) := by
  have hp : (0 : Int) < 2 ^ (n - 1) := Int.pow_pos (by decide)
  unfold clamp; split
  · omega
  · rfl

/-- A result saturates exactly when it does not fit in n bits. -/
theorem saturates_iff (n : Nat) (v : Int) : saturates n v = true ↔ v < -2 ^ (n - 1) ∨ 2 ^ (n - 1) - 1 < v := by
  have hp : (0 : Int) < 2 ^ (n - 1) := Int.pow_pos (by decide)
  by_cases h1 : 2 ^ (n - 1) - 1 < v
  · simp [saturates, clamp_above n v h1]; omega
  · by_cases h2 : v < -2 ^ (n - 1)
    · simp [saturates, clamp_below n v h2]; omega
    · simp [saturates, clamp_inside n v (by omega) (by omega)]; omega

/-! ## Branches -/

/-- A taken branch that is no fault has a word address and is the first of its packet. -/
theorem takeBranch_ok {s t : State} {target : Word} (h : s.takeBranch target = .ok t) :
    target.extractLsb' 0 2 = 0 ∧ s.e1.branch = none ∧ t = { s with e1 := { s.e1 with branch := some target } } := by
  unfold State.takeBranch at h
  split at h
  · cases h
  · next ha =>
    split at h
    · cases h
    · next hb => exact ⟨by simpa using ha, hb, by cases h; rfl⟩

/-- What a return does besides its branch. -/
theorem returnFromInterrupt_ok {s t : State} (h : s.returnFromInterrupt = .ok t) :
    ∃ u, s.takeBranch s.irp = .ok u ∧ t = u.putCtrl .returnIrp := by
  obtain ⟨u, hu, h⟩ := bind_ok.mp h
  exact ⟨u, hu, by cases h; rfl⟩

theorem returnFromNmi_ok {s t : State} (h : s.returnFromNmi = .ok t) :
    ∃ u, s.takeBranch s.nrp = .ok u ∧ t = u.putCtrl .returnNrp := by
  obtain ⟨u, hu, h⟩ := bind_ok.mp h
  exact ⟨u, hu, by cases h; rfl⟩

/-! ## Memory -/

/-- A load that answers is aligned and touches bytes that may be touched. -/
theorem memRead_ok {s : State} {w : Width} {a v : Word} (h : s.memRead w a = .ok v) :
    w.aligned a = true ∧ ∃ bs, s.loadBytes a.toNat w.bytes = .ok bs ∧ v = joinBytes s.littleEndian bs := by
  unfold State.memRead at h
  split at h
  · next ha =>
    obtain ⟨bs, hb, h⟩ := bind_ok.mp h
    exact ⟨ha, bs, hb, by cases h; rfl⟩
  · cases h

/-- A store that answers is aligned, may touch its bytes, and adds exactly them to the stores of the packet. -/
theorem memWrite_ok {s t : State} {w : Width} {a v : Word} (h : s.memWrite w a v = .ok t) :
    w.aligned a = true ∧ s.checkBytes a.toNat w.bytes = .ok ()
      ∧ (List.range' a.toNat w.bytes).any s.isText = false
      ∧ (List.range' a.toNat w.bytes).any (fun n => s.e1.stores.any (fun c => c.1 == n)) = false
      ∧ t = { s with e1 := { s.e1 with stores := s.e1.stores ++ s.storeCells w a v } } := by
  unfold State.memWrite at h
  split at h
  · next ha =>
    obtain ⟨u, hu, h⟩ := bind_ok.mp h
    split at h
    · cases h
    · next ht =>
      split at h
      · cases h
      · next hs => exact ⟨ha, hu, by simpa using ht, by simpa using hs, by cases h; rfl⟩
  · cases h

/-- The bytes a store puts into memory are those of its access. -/
theorem storeCells_address {s : State} {w : Width} {a v : Word} {c : Host.Cell} (h : c ∈ s.storeCells w a v) :
    a.toNat ≤ c.1 ∧ c.1 < a.toNat + w.bytes := by
  have := (List.of_mem_zip h).1
  simp [List.mem_range'] at this
  obtain ⟨i, hi, e⟩ := this
  exact ⟨by omega, by omega⟩

/-- An aligned access stays inside the address space. -/
theorem aligned_end {w : Width} {a : Word} (h : w.aligned a = true) : a.toNat + w.bytes ≤ 4294967296 := by
  have := a.isLt
  cases w <;> simp [Width.aligned, Width.bytes] at * <;> omega

/-! ## Addresses -/

/-- An address calculation that answers is linear or circular by one of the two block sizes. -/
theorem addrCalc_ok {s : State} {d : Side} {f : BitVec 5} {off v : Word} {add : Bool}
    (h : addrCalc s d f off add = .ok v) :
    (circularMode s.amr d (f.setWidth 4) = 0 ∧ v = (if add then s.reg d f + off else s.reg d f - off))
      ∨ (circularMode s.amr d (f.setWidth 4) = 1
          ∧ v = circular (s.amr.extractLsb' 16 5) (s.reg d f) (if add then s.reg d f + off else s.reg d f - off))
      ∨ (circularMode s.amr d (f.setWidth 4) = 2
          ∧ v = circular (s.amr.extractLsb' 21 5) (s.reg d f) (if add then s.reg d f + off else s.reg d f - off)) := by
  simp only [addrCalc] at h
  generalize (if add = true then s.reg d f + off else s.reg d f - off) = lin at h ⊢
  split at h
  · next e => exact .inl ⟨BitVec.eq_of_toNat_eq e, by cases h; rfl⟩
  · next e => exact .inr (.inl ⟨BitVec.eq_of_toNat_eq e, by cases h; rfl⟩)
  · next e => exact .inr (.inr ⟨BitVec.eq_of_toNat_eq e, by cases h; rfl⟩)
  · cases h

/-! ## Control registers -/

/-- A write of CSR that answers has a legal PWRD, and asks for a SAT that is never a set of a clear one. -/
theorem writeCsr_ok {s t : State} {v : Word} (h : s.writeCsr v = .ok t) :
    (powerOf (v.extractLsb' 10 6)).isSome = true
      ∧ ((v.getLsbD 9 = true ∧ t = s.drawn.putCtrl (.csr v (s.satBit && s.freeBit)))
          ∨ (v.getLsbD 9 = false ∧ t = s.putCtrl (.csr v false))) := by
  unfold State.writeCsr at h
  split at h
  · cases h
  · next hp =>
    refine ⟨by simp [hp], ?_⟩
    split at h
    · next hb => exact .inl ⟨hb, by cases h; rfl⟩
    · next hb => exact .inr ⟨by simpa using hb, by cases h; rfl⟩

/-- A control-register write that answers asks for one legal write. -/
theorem writeCtrl_ok {s t : State} {n : BitVec 5} {v : Word} (h : s.writeCtrl n v = .ok t) :
    ∃ c, c.legal = true ∧ (t = s.putCtrl c ∨ t = s.drawn.putCtrl c) := by
  unfold State.writeCtrl at h
  split at h
  case h_2 =>
    obtain ⟨hp, ⟨-, rfl⟩ | ⟨-, rfl⟩⟩ := writeCsr_ok h
    · exact ⟨.csr v (s.satBit && s.freeBit), hp, .inr rfl⟩
    · exact ⟨.csr v false, hp, .inl rfl⟩
  all_goals first
    | (cases h; exact ⟨_, rfl, .inl rfl⟩)
    | cases h

end Sys2Proof.Machine
end

