-- ==== Sys2Proof/Laws/Effects.lean ====
section
/-! SUPPORT. The shared operations only add effects to the packet in E1, and the effects they add are such as a packet
can have. -/

namespace Sys2Proof.Machine

/-! ## Adding effects -/

theorem AddsEffects.refl (s : State) : AddsEffects s s where
  rest := rfl
  regs := List.prefix_refl _
  late := List.prefix_refl _
  stores := List.prefix_refl _
  branch := .inr rfl
  seen := id
  sat := List.prefix_refl _
  ctrl := List.prefix_refl _

theorem AddsEffects.trans {s t u : State} (h : AddsEffects s t) (h' : AddsEffects t u) : AddsEffects s u where
  rest := by rw [h'.rest, h.rest]
  regs := h.regs.trans h'.regs
  late := h.late.trans h'.late
  stores := h.stores.trans h'.stores
  branch := by
    rcases h.branch with e | e
    · exact .inl e
    · rcases h'.branch with e' | e'
      · exact .inl (e ▸ e')
      · exact .inr (e'.trans e)
  seen := fun e => h'.seen (h.seen e)
  sat := h.sat.trans h'.sat
  ctrl := h.ctrl.trans h'.ctrl

theorem AddsEffects.putReg (s : State) (d : Side) (f : BitVec 5) (v : Word) : AddsEffects s (s.putReg d f v) :=
  { AddsEffects.refl s with rest := rfl, regs := List.prefix_append .. }

theorem AddsEffects.putLate (s : State) (d : Side) (f : BitVec 5) (v : Word) (n : Nat) :
    AddsEffects s (s.putLate d f v n) :=
  { AddsEffects.refl s with rest := rfl, late := List.prefix_append .. }

theorem AddsEffects.requestSat (s : State) (n : Nat) : AddsEffects s (s.requestSat n) :=
  { AddsEffects.refl s with rest := rfl, sat := List.prefix_append .. }

theorem AddsEffects.putCtrl (s : State) (c : CtrlWrite) : AddsEffects s (s.putCtrl c) :=
  { AddsEffects.refl s with rest := rfl, ctrl := List.prefix_append .. }

theorem AddsEffects.putHold (s : State) (h : Hold) : AddsEffects s (s.putHold h) :=
  { AddsEffects.refl s with rest := rfl }

theorem AddsEffects.noteBranch (s : State) : AddsEffects s s.noteBranch :=
  { AddsEffects.refl s with rest := rfl, seen := fun _ => rfl }

theorem AddsEffects.drawn (s : State) : AddsEffects s s.drawn :=
  { AddsEffects.refl s with rest := rfl }

theorem AddsEffects.putLong (s : State) (d : Side) (f : BitVec 5) (v : Long) : AddsEffects s (s.putLong d f v) :=
  (AddsEffects.putReg ..).trans (AddsEffects.putReg ..)

theorem AddsEffects.satIf (s : State) (c : Bool) (n : Nat) : AddsEffects s (satIf s c n) := by
  unfold Machine.satIf; split
  · exact AddsEffects.requestSat ..
  · exact AddsEffects.refl s

theorem AddsEffects.takeBranch {s t : State} {target : Word} (h : s.takeBranch target = .ok t) : AddsEffects s t := by
  obtain ⟨-, hb, rfl⟩ := takeBranch_ok h
  exact { AddsEffects.refl s with rest := rfl, branch := .inl hb }

theorem AddsEffects.memWrite {s t : State} {w : Width} {a v : Word} (h : s.memWrite w a v = .ok t) :
    AddsEffects s t := by
  obtain ⟨-, -, -, -, rfl⟩ := memWrite_ok h
  exact { AddsEffects.refl s with rest := rfl, stores := List.prefix_append .. }

theorem AddsEffects.updateBase (s : State) (o : OpsMem) (v : Word) : AddsEffects s (updateBase s o v) := by
  unfold Machine.updateBase; split
  · exact AddsEffects.putReg ..
  · exact AddsEffects.refl s

theorem AddsEffects.writeCtrl {s t : State} {n : BitVec 5} {v : Word} (h : s.writeCtrl n v = .ok t) :
    AddsEffects s t := by
  obtain ⟨c, -, rfl | rfl⟩ := writeCtrl_ok h
  · exact AddsEffects.putCtrl ..
  · exact (AddsEffects.drawn s).trans (AddsEffects.putCtrl ..)

/-! ## Effects that a packet can have -/

theorem Effects.Ok.empty : Effects.Ok {} where
  late := by simp
  stores := by simp
  target := by simp
  seen := by simp
  sat := by simp
  ctrl := by simp
  hold := rfl

theorem Effects.Ok.putReg {s : State} (h : s.e1.Ok) (d : Side) (f : BitVec 5) (v : Word) : (s.putReg d f v).e1.Ok :=
  { h with }

theorem Effects.Ok.putLong {s : State} (h : s.e1.Ok) (d : Side) (f : BitVec 5) (v : Long) :
    (s.putLong d f v).e1.Ok :=
  { h with }

theorem Effects.Ok.putLate {s : State} (h : s.e1.Ok) (d : Side) (f : BitVec 5) (v : Word) (n : Nat) (h1 : 1 ≤ n)
    (h4 : n ≤ 4) : (s.putLate d f v n).e1.Ok :=
  { h with
    late := fun p hp => by
      rcases List.mem_append.mp hp with hp | hp
      · exact h.late p hp
      · obtain rfl := List.mem_singleton.mp hp
        exact ⟨h1, h4⟩ }

theorem Effects.Ok.requestSat {s : State} (h : s.e1.Ok) (n : Nat) (h1 : 1 ≤ n) (h2 : n ≤ 2) :
    (s.requestSat n).e1.Ok :=
  { h with
    sat := fun m hm => by
      rcases List.mem_append.mp hm with hm | hm
      · exact h.sat m hm
      · obtain rfl := List.mem_singleton.mp hm
        exact ⟨h1, h2⟩ }

theorem Effects.Ok.satIf {s : State} (h : s.e1.Ok) (c : Bool) (n : Nat) (h1 : 1 ≤ n) (h2 : n ≤ 2) :
    (Machine.satIf s c n).e1.Ok := by
  unfold Machine.satIf; split
  · exact h.requestSat n h1 h2
  · exact h

theorem Effects.Ok.putCtrl {s : State} (h : s.e1.Ok) (c : CtrlWrite) (hc : c.legal = true) : (s.putCtrl c).e1.Ok :=
  { h with
    ctrl := fun x hx => by
      rcases List.mem_append.mp hx with hx | hx
      · exact h.ctrl x hx
      · obtain rfl := List.mem_singleton.mp hx
        exact hc }

theorem Hold.small_max (g h : Hold) (hg : g.small = true) (hh : h.small = true) : (g.max h).small = true := by
  cases g with
  | idle => cases h <;> rfl
  | count m =>
    cases h with
    | idle => rfl
    | count n =>
      simp only [Hold.small, Hold.max, decide_eq_true_eq] at *
      exact Nat.max_le.mpr ⟨hg, hh⟩

theorem Effects.Ok.putHold {s : State} (h : s.e1.Ok) (g : Hold) (hg : g.small = true) : (s.putHold g).e1.Ok :=
  { h with hold := Hold.small_max _ _ h.hold hg }

theorem Effects.Ok.noteBranch {s : State} (h : s.e1.Ok) : s.noteBranch.e1.Ok :=
  { h with seen := fun _ => rfl }

theorem Effects.Ok.memWrite {s t : State} {w : Width} {a v : Word} (h : s.e1.Ok) (ht : s.memWrite w a v = .ok t) :
    t.e1.Ok := by
  obtain ⟨ha, -, -, -, rfl⟩ := memWrite_ok ht
  exact { h with
    stores := fun c hc => by
      rcases List.mem_append.mp hc with hc | hc
      · exact h.stores c hc
      · have := storeCells_address hc
        have := aligned_end ha
        omega }

theorem Effects.Ok.updateBase {s : State} (h : s.e1.Ok) (o : OpsMem) (v : Word) : (Machine.updateBase s o v).e1.Ok := by
  unfold Machine.updateBase; split
  · exact h.putReg ..
  · exact h

theorem Effects.Ok.writeCtrl {s t : State} {n : BitVec 5} {v : Word} (h : s.e1.Ok) (ht : s.writeCtrl n v = .ok t) :
    t.e1.Ok := by
  obtain ⟨c, hc, rfl | rfl⟩ := writeCtrl_ok ht
  · exact h.putCtrl c hc
  · exact Effects.Ok.putCtrl (s := s.drawn) h c hc

/-- A taken branch, noted as a branch. -/
theorem Effects.Ok.takeBranch {s t : State} {target : Word} (h : s.e1.Ok) (ht : s.takeBranch target = .ok t) :
    t.noteBranch.e1.Ok := by
  obtain ⟨ha, -, rfl⟩ := takeBranch_ok ht
  exact { h with target := fun x hx => by cases hx; exact ha, seen := fun _ => rfl }

/-! ## Loads, stores, branches -/

/-- A load that answers did nothing, its condition false, or wrote its base and asked for its result. -/
theorem load_next {s t : State} {o : OpsMem} {w : Width} {ext : Word → Word} (h : load s o w ext = .next t) :
    (s.holds o.cond = false ∧ t = s)
      ∨ (s.holds o.cond = true ∧ ∃ new v, newBase s o w = .ok new ∧ s.memRead w (usedAddress s o new) = .ok v
          ∧ t = (updateBase s o new).putLate o.side o.data (ext v) 4) := by
  rcases onCond_next.mp h with ⟨hc, h⟩ | h
  · obtain ⟨new, hn, h⟩ := bind_ok.mp (outcome_next.mp h)
    obtain ⟨v, hv, h⟩ := bind_ok.mp h
    exact .inr ⟨hc, new, v, hn, hv, by cases h; rfl⟩
  · exact .inl h

/-- A store that answers did nothing, its condition false, or stored and wrote its base. -/
theorem store_next {s t : State} {o : OpsMem} {w : Width} (h : store s o w = .next t) :
    (s.holds o.cond = false ∧ t = s)
      ∨ (s.holds o.cond = true ∧ ∃ new u, newBase s o w = .ok new
          ∧ s.memWrite w (usedAddress s o new) (s.reg o.side o.data) = .ok u ∧ t = updateBase u o new) := by
  rcases onCond_next.mp h with ⟨hc, h⟩ | h
  · obtain ⟨new, hn, h⟩ := bind_ok.mp (outcome_next.mp h)
    obtain ⟨u, hu, h⟩ := bind_ok.mp h
    exact .inr ⟨hc, new, u, hn, hu, by cases h; rfl⟩
  · exact .inl h

theorem load15_next {s t : State} {o : OpsMem15} {w : Width} {ext : Word → Word} (h : load15 s o w ext = .next t) :
    (s.holds o.cond = false ∧ t = s)
      ∨ (s.holds o.cond = true ∧ ∃ v, s.memRead w (address15 s o w) = .ok v
          ∧ t = s.putLate o.side o.data (ext v) 4) := by
  rcases onCond_next.mp h with ⟨hc, h⟩ | h
  · obtain ⟨v, hv, h⟩ := bind_ok.mp (outcome_next.mp h)
    exact .inr ⟨hc, v, hv, by cases h; rfl⟩
  · exact .inl h

theorem store15_next {s t : State} {o : OpsMem15} {w : Width} (h : store15 s o w = .next t) :
    (s.holds o.cond = false ∧ t = s)
      ∨ (s.holds o.cond = true ∧ s.memWrite w (address15 s o w) (s.reg o.side o.data) = .ok t) := by
  rcases onCond_next.mp h with ⟨hc, h⟩ | h
  · exact .inr ⟨hc, outcome_next.mp h⟩
  · exact .inl h

/-- A branch that answers is noted whatever its condition, and taken when it holds. -/
theorem branch_next {s t : State} {c : Cond} {taken : Except Stop State} (h : branch s c taken = .next t) :
    (s.holds c = true ∧ ∃ u, taken = .ok u ∧ t = u.noteBranch) ∨ (s.holds c = false ∧ t = s.noteBranch) := by
  unfold branch at h
  cases hc : s.holds c with
  | true =>
    rw [hc] at h
    obtain ⟨u, hu, h⟩ := bind_ok.mp (outcome_next.mp h)
    exact .inl ⟨rfl, u, hu, by cases h; rfl⟩
  | false => rw [hc] at h; exact .inr ⟨rfl, by cases h; rfl⟩

/-- Address arithmetic that answers did nothing or wrote the address calculated. -/
theorem addressArith_next {s t : State} {o : OpsD} {w : Width} {off : Word} {add : Bool}
    (h : addressArith s o w off add = .next t) :
    (s.holds o.cond = false ∧ t = s)
      ∨ (s.holds o.cond = true ∧ ∃ v, addrCalc s o.side o.src2 (off <<< w.scale) add = .ok v
          ∧ t = s.putReg o.side o.dst v) := by
  rcases onCond_next.mp h with ⟨hc, h⟩ | h
  · obtain ⟨v, hv, h⟩ := bind_ok.mp (outcome_next.mp h)
    exact .inr ⟨hc, v, hv, by cases h; rfl⟩
  · exact .inl h

/-- MVC from a control register that answers did nothing or wrote what it read. -/
theorem execMvcRead_next {s t : State} {o : Ops3} (h : execMvcRead o s = .next t) :
    (s.holds o.cond = false ∧ t = s)
      ∨ (s.holds o.cond = true ∧ ∃ v, s.readCtrl o.src2 = .ok v ∧ t = s.putReg o.side o.dst v) := by
  rcases onCond_next.mp h with ⟨hc, h⟩ | h
  · obtain ⟨v, hv, h⟩ := bind_ok.mp (outcome_next.mp h)
    exact .inr ⟨hc, v, hv, by cases h; rfl⟩
  · exact .inl h

end Sys2Proof.Machine
end

