-- ==== Sys2Proof/Laws/Memory.lean ====
section
/-! SUPPORT. Laws of memory: a read after a write, other addresses, and the canonical form that every operation keeps. -/

namespace Sys2Proof.Machine

@[simp] theorem Memory.read_nil (a : Nat) : Memory.read [] a = none := rfl

@[simp] theorem Memory.writeAll_nil (m : Memory) : m.writeAll [] = m := rfl

@[simp] theorem Memory.writeAll_cons (m : Memory) (c : Host.Cell) (cs : List Host.Cell) :
    m.writeAll (c :: cs) = (m.write c.1 c.2).writeAll cs := rfl

theorem Memory.writeAll_append (m : Memory) (xs ys : List Host.Cell) :
    m.writeAll (xs ++ ys) = (m.writeAll xs).writeAll ys := by
  simp [Memory.writeAll, List.foldl_append]

/-- A byte written is the byte read. -/
@[simp] theorem Memory.read_write_same (m : Memory) (a : Nat) (v : Byte) : (m.write a v).read a = some v := by
  induction m with
  | nil => simp [Memory.write, Memory.read]
  | cons c m ih =>
    unfold Memory.write
    split
    · simp [Memory.read]
    · split
      · simp [Memory.read]
      · next h => simp [Memory.read, ih, Ne.symm h]

/-- A write leaves every other address alone. -/
theorem Memory.read_write_other (m : Memory) (a b : Nat) (v : Byte) (h : b ≠ a) :
    (m.write a v).read b = m.read b := by
  induction m with
  | nil => simp [Memory.write, Memory.read, h.symm]
  | cons c m ih =>
    unfold Memory.write
    split
    · simp [Memory.read, h.symm]
    · split
      · next hc => subst hc; simp [Memory.read, h.symm]
      · simp [Memory.read, ih]

/-- Writing a list of bytes leaves every address outside the list alone. -/
theorem Memory.read_writeAll_other (cells : List Host.Cell) (m : Memory) (b : Nat) (h : ∀ c ∈ cells, c.1 ≠ b) :
    (m.writeAll cells).read b = m.read b := by
  induction cells generalizing m with
  | nil => rfl
  | cons c cs ih =>
    rw [Memory.writeAll_cons, ih _ fun x hx => h x (List.mem_cons_of_mem _ hx),
      Memory.read_write_other _ _ _ _ (h c List.mem_cons_self).symm]

/-- After a list of bytes is written, an address reads as the last entry for it, and as before when there is none. -/
theorem Memory.read_writeAll (cells : List Host.Cell) (m : Memory) (b : Nat) :
    (m.writeAll cells).read b = ((cells.reverse.find? (fun c => c.1 == b)).map Prod.snd).or (m.read b) := by
  induction cells generalizing m with
  | nil => simp
  | cons c cs ih =>
    rw [Memory.writeAll_cons, ih, List.reverse_cons, List.find?_append]
    cases cs.reverse.find? (fun c => c.1 == b) with
    | some x => simp
    | none =>
      by_cases h : c.1 = b
      · subst h; simp
      · simp [h, Memory.read_write_other _ _ _ _ (Ne.symm h)]

/-- Rising from a higher bound is rising from a lower one. -/
theorem Memory.risingFrom_mono (m : Memory) (low low' : Nat) (h : low' ≤ low) (hm : Memory.risingFrom low m = true) :
    Memory.risingFrom low' m = true := by
  cases m with
  | nil => rfl
  | cons c m =>
    simp only [Memory.risingFrom, Bool.and_eq_true, decide_eq_true_eq] at hm ⊢
    exact ⟨⟨Nat.le_trans h hm.1.1, hm.1.2⟩, hm.2⟩

/-- A write within bounds keeps the addresses rising. -/
theorem Memory.risingFrom_write (m : Memory) (low a : Nat) (v : Byte) (hl : low ≤ a) (ha : a < 4294967296)
    (hm : Memory.risingFrom low m = true) : Memory.risingFrom low (m.write a v) = true := by
  induction m generalizing low with
  | nil => simp [Memory.write, Memory.risingFrom, hl, ha]
  | cons c m ih =>
    simp only [Memory.risingFrom, Bool.and_eq_true, decide_eq_true_eq] at hm
    unfold Memory.write
    split
    · simp [Memory.risingFrom, hm]; omega
    · split
      · next h => simp [Memory.risingFrom, h, hm.1, hm.2]
      · simp only [Memory.risingFrom, Bool.and_eq_true, decide_eq_true_eq]
        exact ⟨hm.1, ih _ (by omega) hm.2⟩

/-- A write within the address space keeps the canonical form. -/
theorem Memory.wf_write (m : Memory) (a : Nat) (v : Byte) (ha : a < 4294967296) (hm : m.wf = true) :
    (m.write a v).wf = true :=
  Memory.risingFrom_write m 0 a v (Nat.zero_le a) ha hm

/-- Writing a list of bytes within the address space keeps the canonical form. -/
theorem Memory.wf_writeAll (cells : List Host.Cell) (m : Memory) (h : ∀ c ∈ cells, c.1 < 4294967296)
    (hm : m.wf = true) : (m.writeAll cells).wf = true := by
  induction cells generalizing m with
  | nil => exact hm
  | cons c cs ih =>
    exact ih _ (fun x hx => h x (List.mem_cons_of_mem _ hx))
      (Memory.wf_write m c.1 c.2 (h c List.mem_cons_self) hm)

/-- The memories of a machine right after reset are in canonical form. -/
theorem reset_memory_wf : State.reset.mem.wf = true ∧ State.reset.prog.wf = true := by decide

end Sys2Proof.Machine
end

