-- ==== Sys2Proof/Laws/Cycle.lean ====
section
/-! SUPPORT. What the stages of the end of a cycle leave alone, and what a cycle does when it answers. -/

namespace Sys2Proof.Machine

/-! ## A control-register write landing -/

@[simp] theorem State.applyCtrl_a (s : State) (c : CtrlWrite) : (s.applyCtrl c).a = s.a := by
  cases c <;> rfl
@[simp] theorem State.applyCtrl_b (s : State) (c : CtrlWrite) : (s.applyCtrl c).b = s.b := by
  cases c <;> rfl
@[simp] theorem State.applyCtrl_pc (s : State) (c : CtrlWrite) : (s.applyCtrl c).pc = s.pc := by
  cases c <;> rfl
@[simp] theorem State.applyCtrl_ifr (s : State) (c : CtrlWrite) : (s.applyCtrl c).ifr = s.ifr := by
  cases c <;> rfl
@[simp] theorem State.applyCtrl_mem (s : State) (c : CtrlWrite) : (s.applyCtrl c).mem = s.mem := by
  cases c <;> rfl
@[simp] theorem State.applyCtrl_prog (s : State) (c : CtrlWrite) : (s.applyCtrl c).prog = s.prog := by
  cases c <;> rfl
@[simp] theorem State.applyCtrl_pendingRegs (s : State) (c : CtrlWrite) : (s.applyCtrl c).pendingRegs = s.pendingRegs := by
  cases c <;> rfl
@[simp] theorem State.applyCtrl_pendingBranches (s : State) (c : CtrlWrite) : (s.applyCtrl c).pendingBranches = s.pendingBranches := by
  cases c <;> rfl
@[simp] theorem State.applyCtrl_branchShadow (s : State) (c : CtrlWrite) : (s.applyCtrl c).branchShadow = s.branchShadow := by
  cases c <;> rfl
@[simp] theorem State.applyCtrl_pendingSat (s : State) (c : CtrlWrite) : (s.applyCtrl c).pendingSat = s.pendingSat := by
  cases c <;> rfl
@[simp] theorem State.applyCtrl_hold (s : State) (c : CtrlWrite) : (s.applyCtrl c).hold = s.hold := by
  cases c <;> rfl
@[simp] theorem State.applyCtrl_intLatch (s : State) (c : CtrlWrite) : (s.applyCtrl c).intLatch = s.intLatch := by
  cases c <;> rfl
@[simp] theorem State.applyCtrl_intHold (s : State) (c : CtrlWrite) : (s.applyCtrl c).intHold = s.intHold := by
  cases c <;> rfl
@[simp] theorem State.applyCtrl_entering (s : State) (c : CtrlWrite) : (s.applyCtrl c).entering = s.entering := by
  cases c <;> rfl
@[simp] theorem State.applyCtrl_iack (s : State) (c : CtrlWrite) : (s.applyCtrl c).iack = s.iack := by
  cases c <;> rfl
@[simp] theorem State.applyCtrl_inum (s : State) (c : CtrlWrite) : (s.applyCtrl c).inum = s.inum := by
  cases c <;> rfl
@[simp] theorem State.applyCtrl_launch (s : State) (c : CtrlWrite) : (s.applyCtrl c).launch = s.launch := by
  cases c <;> rfl
@[simp] theorem State.applyCtrl_env (s : State) (c : CtrlWrite) : (s.applyCtrl c).env = s.env := by
  cases c <;> rfl
@[simp] theorem State.applyCtrl_e1 (s : State) (c : CtrlWrite) : (s.applyCtrl c).e1 = s.e1 := by
  cases c <;> rfl
@[simp] theorem State.applyCtrl_freeIdx (s : State) (c : CtrlWrite) : (s.applyCtrl c).freeIdx = s.freeIdx := by
  cases c <;> rfl

/-! ## A list of control-register writes -/

@[simp] theorem State.applyCtrls_a (cs : List CtrlWrite) (s : State) :
    (cs.foldl State.applyCtrl s).a = s.a := by
  induction cs generalizing s with
  | nil => rfl
  | cons c cs ih => simp [ih]
@[simp] theorem State.applyCtrls_b (cs : List CtrlWrite) (s : State) :
    (cs.foldl State.applyCtrl s).b = s.b := by
  induction cs generalizing s with
  | nil => rfl
  | cons c cs ih => simp [ih]
@[simp] theorem State.applyCtrls_pc (cs : List CtrlWrite) (s : State) :
    (cs.foldl State.applyCtrl s).pc = s.pc := by
  induction cs generalizing s with
  | nil => rfl
  | cons c cs ih => simp [ih]
@[simp] theorem State.applyCtrls_ifr (cs : List CtrlWrite) (s : State) :
    (cs.foldl State.applyCtrl s).ifr = s.ifr := by
  induction cs generalizing s with
  | nil => rfl
  | cons c cs ih => simp [ih]
@[simp] theorem State.applyCtrls_mem (cs : List CtrlWrite) (s : State) :
    (cs.foldl State.applyCtrl s).mem = s.mem := by
  induction cs generalizing s with
  | nil => rfl
  | cons c cs ih => simp [ih]
@[simp] theorem State.applyCtrls_prog (cs : List CtrlWrite) (s : State) :
    (cs.foldl State.applyCtrl s).prog = s.prog := by
  induction cs generalizing s with
  | nil => rfl
  | cons c cs ih => simp [ih]
@[simp] theorem State.applyCtrls_pendingRegs (cs : List CtrlWrite) (s : State) :
    (cs.foldl State.applyCtrl s).pendingRegs = s.pendingRegs := by
  induction cs generalizing s with
  | nil => rfl
  | cons c cs ih => simp [ih]
@[simp] theorem State.applyCtrls_pendingBranches (cs : List CtrlWrite) (s : State) :
    (cs.foldl State.applyCtrl s).pendingBranches = s.pendingBranches := by
  induction cs generalizing s with
  | nil => rfl
  | cons c cs ih => simp [ih]
@[simp] theorem State.applyCtrls_branchShadow (cs : List CtrlWrite) (s : State) :
    (cs.foldl State.applyCtrl s).branchShadow = s.branchShadow := by
  induction cs generalizing s with
  | nil => rfl
  | cons c cs ih => simp [ih]
@[simp] theorem State.applyCtrls_pendingSat (cs : List CtrlWrite) (s : State) :
    (cs.foldl State.applyCtrl s).pendingSat = s.pendingSat := by
  induction cs generalizing s with
  | nil => rfl
  | cons c cs ih => simp [ih]
@[simp] theorem State.applyCtrls_hold (cs : List CtrlWrite) (s : State) :
    (cs.foldl State.applyCtrl s).hold = s.hold := by
  induction cs generalizing s with
  | nil => rfl
  | cons c cs ih => simp [ih]
@[simp] theorem State.applyCtrls_intLatch (cs : List CtrlWrite) (s : State) :
    (cs.foldl State.applyCtrl s).intLatch = s.intLatch := by
  induction cs generalizing s with
  | nil => rfl
  | cons c cs ih => simp [ih]
@[simp] theorem State.applyCtrls_intHold (cs : List CtrlWrite) (s : State) :
    (cs.foldl State.applyCtrl s).intHold = s.intHold := by
  induction cs generalizing s with
  | nil => rfl
  | cons c cs ih => simp [ih]
@[simp] theorem State.applyCtrls_entering (cs : List CtrlWrite) (s : State) :
    (cs.foldl State.applyCtrl s).entering = s.entering := by
  induction cs generalizing s with
  | nil => rfl
  | cons c cs ih => simp [ih]
@[simp] theorem State.applyCtrls_iack (cs : List CtrlWrite) (s : State) :
    (cs.foldl State.applyCtrl s).iack = s.iack := by
  induction cs generalizing s with
  | nil => rfl
  | cons c cs ih => simp [ih]
@[simp] theorem State.applyCtrls_inum (cs : List CtrlWrite) (s : State) :
    (cs.foldl State.applyCtrl s).inum = s.inum := by
  induction cs generalizing s with
  | nil => rfl
  | cons c cs ih => simp [ih]
@[simp] theorem State.applyCtrls_launch (cs : List CtrlWrite) (s : State) :
    (cs.foldl State.applyCtrl s).launch = s.launch := by
  induction cs generalizing s with
  | nil => rfl
  | cons c cs ih => simp [ih]
@[simp] theorem State.applyCtrls_env (cs : List CtrlWrite) (s : State) :
    (cs.foldl State.applyCtrl s).env = s.env := by
  induction cs generalizing s with
  | nil => rfl
  | cons c cs ih => simp [ih]
@[simp] theorem State.applyCtrls_e1 (cs : List CtrlWrite) (s : State) :
    (cs.foldl State.applyCtrl s).e1 = s.e1 := by
  induction cs generalizing s with
  | nil => rfl
  | cons c cs ih => simp [ih]
@[simp] theorem State.applyCtrls_freeIdx (cs : List CtrlWrite) (s : State) :
    (cs.foldl State.applyCtrl s).freeIdx = s.freeIdx := by
  induction cs generalizing s with
  | nil => rfl
  | cons c cs ih => simp [ih]

/-! ## A list of register writes -/

@[simp] theorem State.writeRegs_pc (ws : List RegWrite) (s : State) :
    (ws.foldl State.writeReg s).pc = s.pc := by
  induction ws generalizing s with
  | nil => rfl
  | cons w ws ih => simp [ih]
@[simp] theorem State.writeRegs_amr (ws : List RegWrite) (s : State) :
    (ws.foldl State.writeReg s).amr = s.amr := by
  induction ws generalizing s with
  | nil => rfl
  | cons w ws ih => simp [ih]
@[simp] theorem State.writeRegs_csr (ws : List RegWrite) (s : State) :
    (ws.foldl State.writeReg s).csr = s.csr := by
  induction ws generalizing s with
  | nil => rfl
  | cons w ws ih => simp [ih]
@[simp] theorem State.writeRegs_ifr (ws : List RegWrite) (s : State) :
    (ws.foldl State.writeReg s).ifr = s.ifr := by
  induction ws generalizing s with
  | nil => rfl
  | cons w ws ih => simp [ih]
@[simp] theorem State.writeRegs_ier (ws : List RegWrite) (s : State) :
    (ws.foldl State.writeReg s).ier = s.ier := by
  induction ws generalizing s with
  | nil => rfl
  | cons w ws ih => simp [ih]
@[simp] theorem State.writeRegs_istb (ws : List RegWrite) (s : State) :
    (ws.foldl State.writeReg s).istb = s.istb := by
  induction ws generalizing s with
  | nil => rfl
  | cons w ws ih => simp [ih]
@[simp] theorem State.writeRegs_irp (ws : List RegWrite) (s : State) :
    (ws.foldl State.writeReg s).irp = s.irp := by
  induction ws generalizing s with
  | nil => rfl
  | cons w ws ih => simp [ih]
@[simp] theorem State.writeRegs_nrp (ws : List RegWrite) (s : State) :
    (ws.foldl State.writeReg s).nrp = s.nrp := by
  induction ws generalizing s with
  | nil => rfl
  | cons w ws ih => simp [ih]
@[simp] theorem State.writeRegs_mem (ws : List RegWrite) (s : State) :
    (ws.foldl State.writeReg s).mem = s.mem := by
  induction ws generalizing s with
  | nil => rfl
  | cons w ws ih => simp [ih]
@[simp] theorem State.writeRegs_prog (ws : List RegWrite) (s : State) :
    (ws.foldl State.writeReg s).prog = s.prog := by
  induction ws generalizing s with
  | nil => rfl
  | cons w ws ih => simp [ih]
@[simp] theorem State.writeRegs_pendingRegs (ws : List RegWrite) (s : State) :
    (ws.foldl State.writeReg s).pendingRegs = s.pendingRegs := by
  induction ws generalizing s with
  | nil => rfl
  | cons w ws ih => simp [ih]
@[simp] theorem State.writeRegs_pendingBranches (ws : List RegWrite) (s : State) :
    (ws.foldl State.writeReg s).pendingBranches = s.pendingBranches := by
  induction ws generalizing s with
  | nil => rfl
  | cons w ws ih => simp [ih]
@[simp] theorem State.writeRegs_branchShadow (ws : List RegWrite) (s : State) :
    (ws.foldl State.writeReg s).branchShadow = s.branchShadow := by
  induction ws generalizing s with
  | nil => rfl
  | cons w ws ih => simp [ih]
@[simp] theorem State.writeRegs_pendingSat (ws : List RegWrite) (s : State) :
    (ws.foldl State.writeReg s).pendingSat = s.pendingSat := by
  induction ws generalizing s with
  | nil => rfl
  | cons w ws ih => simp [ih]
@[simp] theorem State.writeRegs_pendingIfr (ws : List RegWrite) (s : State) :
    (ws.foldl State.writeReg s).pendingIfr = s.pendingIfr := by
  induction ws generalizing s with
  | nil => rfl
  | cons w ws ih => simp [ih]
@[simp] theorem State.writeRegs_hold (ws : List RegWrite) (s : State) :
    (ws.foldl State.writeReg s).hold = s.hold := by
  induction ws generalizing s with
  | nil => rfl
  | cons w ws ih => simp [ih]
@[simp] theorem State.writeRegs_intLatch (ws : List RegWrite) (s : State) :
    (ws.foldl State.writeReg s).intLatch = s.intLatch := by
  induction ws generalizing s with
  | nil => rfl
  | cons w ws ih => simp [ih]
@[simp] theorem State.writeRegs_intHold (ws : List RegWrite) (s : State) :
    (ws.foldl State.writeReg s).intHold = s.intHold := by
  induction ws generalizing s with
  | nil => rfl
  | cons w ws ih => simp [ih]
@[simp] theorem State.writeRegs_entering (ws : List RegWrite) (s : State) :
    (ws.foldl State.writeReg s).entering = s.entering := by
  induction ws generalizing s with
  | nil => rfl
  | cons w ws ih => simp [ih]
@[simp] theorem State.writeRegs_iack (ws : List RegWrite) (s : State) :
    (ws.foldl State.writeReg s).iack = s.iack := by
  induction ws generalizing s with
  | nil => rfl
  | cons w ws ih => simp [ih]
@[simp] theorem State.writeRegs_inum (ws : List RegWrite) (s : State) :
    (ws.foldl State.writeReg s).inum = s.inum := by
  induction ws generalizing s with
  | nil => rfl
  | cons w ws ih => simp [ih]
@[simp] theorem State.writeRegs_power (ws : List RegWrite) (s : State) :
    (ws.foldl State.writeReg s).power = s.power := by
  induction ws generalizing s with
  | nil => rfl
  | cons w ws ih => simp [ih]
@[simp] theorem State.writeRegs_launch (ws : List RegWrite) (s : State) :
    (ws.foldl State.writeReg s).launch = s.launch := by
  induction ws generalizing s with
  | nil => rfl
  | cons w ws ih => simp [ih]
@[simp] theorem State.writeRegs_env (ws : List RegWrite) (s : State) :
    (ws.foldl State.writeReg s).env = s.env := by
  induction ws generalizing s with
  | nil => rfl
  | cons w ws ih => simp [ih]
@[simp] theorem State.writeRegs_e1 (ws : List RegWrite) (s : State) :
    (ws.foldl State.writeReg s).e1 = s.e1 := by
  induction ws generalizing s with
  | nil => rfl
  | cons w ws ih => simp [ih]
@[simp] theorem State.writeRegs_freeIdx (ws : List RegWrite) (s : State) :
    (ws.foldl State.writeReg s).freeIdx = s.freeIdx := by
  induction ws generalizing s with
  | nil => rfl
  | cons w ws ih => simp [ih]

/-! ## Interrupt entry -/

@[simp] theorem State.takeInterrupt_a (s : State) (m : BitVec 4) : (s.takeInterrupt m).a = s.a := by
  unfold State.takeInterrupt; split <;> rfl
@[simp] theorem State.takeInterrupt_b (s : State) (m : BitVec 4) : (s.takeInterrupt m).b = s.b := by
  unfold State.takeInterrupt; split <;> rfl
@[simp] theorem State.takeInterrupt_amr (s : State) (m : BitVec 4) : (s.takeInterrupt m).amr = s.amr := by
  unfold State.takeInterrupt; split <;> rfl
@[simp] theorem State.takeInterrupt_ifr (s : State) (m : BitVec 4) : (s.takeInterrupt m).ifr = s.ifr := by
  unfold State.takeInterrupt; split <;> rfl
@[simp] theorem State.takeInterrupt_istb (s : State) (m : BitVec 4) : (s.takeInterrupt m).istb = s.istb := by
  unfold State.takeInterrupt; split <;> rfl
@[simp] theorem State.takeInterrupt_mem (s : State) (m : BitVec 4) : (s.takeInterrupt m).mem = s.mem := by
  unfold State.takeInterrupt; split <;> rfl
@[simp] theorem State.takeInterrupt_prog (s : State) (m : BitVec 4) : (s.takeInterrupt m).prog = s.prog := by
  unfold State.takeInterrupt; split <;> rfl
@[simp] theorem State.takeInterrupt_pendingRegs (s : State) (m : BitVec 4) : (s.takeInterrupt m).pendingRegs = s.pendingRegs := by
  unfold State.takeInterrupt; split <;> rfl
@[simp] theorem State.takeInterrupt_pendingBranches (s : State) (m : BitVec 4) : (s.takeInterrupt m).pendingBranches = s.pendingBranches := by
  unfold State.takeInterrupt; split <;> rfl
@[simp] theorem State.takeInterrupt_branchShadow (s : State) (m : BitVec 4) : (s.takeInterrupt m).branchShadow = s.branchShadow := by
  unfold State.takeInterrupt; split <;> rfl
@[simp] theorem State.takeInterrupt_pendingSat (s : State) (m : BitVec 4) : (s.takeInterrupt m).pendingSat = s.pendingSat := by
  unfold State.takeInterrupt; split <;> rfl
@[simp] theorem State.takeInterrupt_pendingIfr (s : State) (m : BitVec 4) : (s.takeInterrupt m).pendingIfr = s.pendingIfr := by
  unfold State.takeInterrupt; split <;> rfl
@[simp] theorem State.takeInterrupt_intLatch (s : State) (m : BitVec 4) : (s.takeInterrupt m).intLatch = s.intLatch := by
  unfold State.takeInterrupt; split <;> rfl
@[simp] theorem State.takeInterrupt_iack (s : State) (m : BitVec 4) : (s.takeInterrupt m).iack = s.iack := by
  unfold State.takeInterrupt; split <;> rfl
@[simp] theorem State.takeInterrupt_inum (s : State) (m : BitVec 4) : (s.takeInterrupt m).inum = s.inum := by
  unfold State.takeInterrupt; split <;> rfl
@[simp] theorem State.takeInterrupt_power (s : State) (m : BitVec 4) : (s.takeInterrupt m).power = s.power := by
  unfold State.takeInterrupt; split <;> rfl
@[simp] theorem State.takeInterrupt_launch (s : State) (m : BitVec 4) : (s.takeInterrupt m).launch = s.launch := by
  unfold State.takeInterrupt; split <;> rfl
@[simp] theorem State.takeInterrupt_env (s : State) (m : BitVec 4) : (s.takeInterrupt m).env = s.env := by
  unfold State.takeInterrupt; split <;> rfl
@[simp] theorem State.takeInterrupt_e1 (s : State) (m : BitVec 4) : (s.takeInterrupt m).e1 = s.e1 := by
  unfold State.takeInterrupt; split <;> rfl
@[simp] theorem State.takeInterrupt_freeIdx (s : State) (m : BitVec 4) : (s.takeInterrupt m).freeIdx = s.freeIdx := by
  unfold State.takeInterrupt; split <;> rfl
@[simp] theorem State.takeInterrupt_hold (s : State) (m : BitVec 4) : (s.takeInterrupt m).hold = .count 0 := by
  unfold State.takeInterrupt; rfl
@[simp] theorem State.takeInterrupt_intHold (s : State) (m : BitVec 4) : (s.takeInterrupt m).intHold = 7 := by
  unfold State.takeInterrupt; rfl
@[simp] theorem State.takeInterrupt_entering (s : State) (m : BitVec 4) : (s.takeInterrupt m).entering = m := by
  unfold State.takeInterrupt; rfl
@[simp] theorem State.takeInterrupt_pc (s : State) (m : BitVec 4) : (s.takeInterrupt m).pc = s.entryAddress m := by
  unfold State.takeInterrupt; rfl
@[simp] theorem State.enter_a (s : State) (d : Option (BitVec 4)) : (s.enter d).a = s.a := by
  cases d <;> simp [State.enter]
@[simp] theorem State.enter_b (s : State) (d : Option (BitVec 4)) : (s.enter d).b = s.b := by
  cases d <;> simp [State.enter]
@[simp] theorem State.enter_amr (s : State) (d : Option (BitVec 4)) : (s.enter d).amr = s.amr := by
  cases d <;> simp [State.enter]
@[simp] theorem State.enter_ifr (s : State) (d : Option (BitVec 4)) : (s.enter d).ifr = s.ifr := by
  cases d <;> simp [State.enter]
@[simp] theorem State.enter_istb (s : State) (d : Option (BitVec 4)) : (s.enter d).istb = s.istb := by
  cases d <;> simp [State.enter]
@[simp] theorem State.enter_mem (s : State) (d : Option (BitVec 4)) : (s.enter d).mem = s.mem := by
  cases d <;> simp [State.enter]
@[simp] theorem State.enter_prog (s : State) (d : Option (BitVec 4)) : (s.enter d).prog = s.prog := by
  cases d <;> simp [State.enter]
@[simp] theorem State.enter_pendingRegs (s : State) (d : Option (BitVec 4)) : (s.enter d).pendingRegs = s.pendingRegs := by
  cases d <;> simp [State.enter]
@[simp] theorem State.enter_pendingBranches (s : State) (d : Option (BitVec 4)) : (s.enter d).pendingBranches = s.pendingBranches := by
  cases d <;> simp [State.enter]
@[simp] theorem State.enter_branchShadow (s : State) (d : Option (BitVec 4)) : (s.enter d).branchShadow = s.branchShadow := by
  cases d <;> simp [State.enter]
@[simp] theorem State.enter_pendingSat (s : State) (d : Option (BitVec 4)) : (s.enter d).pendingSat = s.pendingSat := by
  cases d <;> simp [State.enter]
@[simp] theorem State.enter_pendingIfr (s : State) (d : Option (BitVec 4)) : (s.enter d).pendingIfr = s.pendingIfr := by
  cases d <;> simp [State.enter]
@[simp] theorem State.enter_intLatch (s : State) (d : Option (BitVec 4)) : (s.enter d).intLatch = s.intLatch := by
  cases d <;> simp [State.enter]
@[simp] theorem State.enter_iack (s : State) (d : Option (BitVec 4)) : (s.enter d).iack = s.iack := by
  cases d <;> simp [State.enter]
@[simp] theorem State.enter_inum (s : State) (d : Option (BitVec 4)) : (s.enter d).inum = s.inum := by
  cases d <;> simp [State.enter]
@[simp] theorem State.enter_power (s : State) (d : Option (BitVec 4)) : (s.enter d).power = s.power := by
  cases d <;> simp [State.enter]
@[simp] theorem State.enter_launch (s : State) (d : Option (BitVec 4)) : (s.enter d).launch = s.launch := by
  cases d <;> simp [State.enter]
@[simp] theorem State.enter_env (s : State) (d : Option (BitVec 4)) : (s.enter d).env = s.env := by
  cases d <;> simp [State.enter]
@[simp] theorem State.enter_e1 (s : State) (d : Option (BitVec 4)) : (s.enter d).e1 = s.e1 := by
  cases d <;> simp [State.enter]
@[simp] theorem State.enter_freeIdx (s : State) (d : Option (BitVec 4)) : (s.enter d).freeIdx = s.freeIdx := by
  cases d <;> simp [State.enter]

/-! ## Counting down -/

@[simp] theorem State.countDown_a (s : State) (n : Nat) (w : Bool) : (s.countDown n w).a = s.a := by
  cases w <;> rfl
@[simp] theorem State.countDown_b (s : State) (n : Nat) (w : Bool) : (s.countDown n w).b = s.b := by
  cases w <;> rfl
@[simp] theorem State.countDown_pc (s : State) (n : Nat) (w : Bool) : (s.countDown n w).pc = s.pc := by
  cases w <;> rfl
@[simp] theorem State.countDown_amr (s : State) (n : Nat) (w : Bool) : (s.countDown n w).amr = s.amr := by
  cases w <;> rfl
@[simp] theorem State.countDown_ifr (s : State) (n : Nat) (w : Bool) : (s.countDown n w).ifr = s.ifr := by
  cases w <;> rfl
@[simp] theorem State.countDown_ier (s : State) (n : Nat) (w : Bool) : (s.countDown n w).ier = s.ier := by
  cases w <;> rfl
@[simp] theorem State.countDown_istb (s : State) (n : Nat) (w : Bool) : (s.countDown n w).istb = s.istb := by
  cases w <;> rfl
@[simp] theorem State.countDown_irp (s : State) (n : Nat) (w : Bool) : (s.countDown n w).irp = s.irp := by
  cases w <;> rfl
@[simp] theorem State.countDown_nrp (s : State) (n : Nat) (w : Bool) : (s.countDown n w).nrp = s.nrp := by
  cases w <;> rfl
@[simp] theorem State.countDown_mem (s : State) (n : Nat) (w : Bool) : (s.countDown n w).mem = s.mem := by
  cases w <;> rfl
@[simp] theorem State.countDown_prog (s : State) (n : Nat) (w : Bool) : (s.countDown n w).prog = s.prog := by
  cases w <;> rfl
@[simp] theorem State.countDown_pendingRegs (s : State) (n : Nat) (w : Bool) : (s.countDown n w).pendingRegs = s.pendingRegs := by
  cases w <;> rfl
@[simp] theorem State.countDown_pendingBranches (s : State) (n : Nat) (w : Bool) : (s.countDown n w).pendingBranches = s.pendingBranches := by
  cases w <;> rfl
@[simp] theorem State.countDown_pendingSat (s : State) (n : Nat) (w : Bool) : (s.countDown n w).pendingSat = s.pendingSat := by
  cases w <;> rfl
@[simp] theorem State.countDown_pendingIfr (s : State) (n : Nat) (w : Bool) : (s.countDown n w).pendingIfr = s.pendingIfr := by
  cases w <;> rfl
@[simp] theorem State.countDown_hold (s : State) (n : Nat) (w : Bool) : (s.countDown n w).hold = s.hold := by
  cases w <;> rfl
@[simp] theorem State.countDown_intLatch (s : State) (n : Nat) (w : Bool) : (s.countDown n w).intLatch = s.intLatch := by
  cases w <;> rfl
@[simp] theorem State.countDown_entering (s : State) (n : Nat) (w : Bool) : (s.countDown n w).entering = s.entering := by
  cases w <;> rfl
@[simp] theorem State.countDown_iack (s : State) (n : Nat) (w : Bool) : (s.countDown n w).iack = s.iack := by
  cases w <;> rfl
@[simp] theorem State.countDown_inum (s : State) (n : Nat) (w : Bool) : (s.countDown n w).inum = s.inum := by
  cases w <;> rfl
@[simp] theorem State.countDown_launch (s : State) (n : Nat) (w : Bool) : (s.countDown n w).launch = s.launch := by
  cases w <;> rfl
@[simp] theorem State.countDown_env (s : State) (n : Nat) (w : Bool) : (s.countDown n w).env = s.env := by
  cases w <;> rfl
@[simp] theorem State.countDown_branchShadow (s : State) (n : Nat) (w : Bool) : (s.countDown n w).branchShadow = n := by
  cases w <;> rfl
@[simp] theorem State.countDown_intHold (s : State) (n : Nat) (w : Bool) : (s.countDown n w).intHold = s.intHold - 1 := by
  cases w <;> rfl
@[simp] theorem State.countDown_e1 (s : State) (n : Nat) (w : Bool) : (s.countDown n w).e1 = {} := by
  cases w <;> rfl

/-! ## The two kinds of entry -/

theorem takeInterrupt_nmi (s : State) :
    s.takeInterrupt 1
      = { s with
          nrp := s.pc, ier := setBit s.ier 1 false, hold := .count 0, intHold := 7, entering := 1
          pc := s.entryAddress 1 } := rfl

theorem takeInterrupt_maskable (s : State) (m : BitVec 4) (h : m ≠ 1) :
    s.takeInterrupt m
      = { s with
          irp := s.pc, csr := setBit (setBit s.csr 1 s.gie) 0 false, hold := .count 0, intHold := 7, entering := m
          pc := s.entryAddress m } := by
  unfold State.takeInterrupt; rw [if_neg h]

/-! ## The stages -/

/-- Register writes land, no two of them on one register. -/
theorem retire_ok {s t : State} (h : s.retire = .ok t) :
    hasTwice (s.landing.map RegWrite.target) = false
      ∧ t = { s.landing.foldl State.writeReg s with pendingRegs := stillLate s.pendingRegs ++ s.e1.late } := by
  unfold State.retire at h
  split at h
  · cases h
  · next ht => exact ⟨by simpa using ht, by cases h; rfl⟩

/-- The program pointer after a cycle: a branch due, or past the packet that issued, or held. -/
theorem advancePc_ok {s t : State} {issued : Option Nat} (h : s.advancePc issued = .ok t) :
    (∃ p, s.pendingBranches.find? (fun p => due p.left) = some p
        ∧ t = { s with pc := p.target, hold := .count 0, pendingBranches := s.nextBranches })
      ∨ (s.pendingBranches.find? (fun p => due p.left) = none ∧ ∃ n, issued = some n
        ∧ s.pc.toNat + 4 * n < 4294967296
        ∧ t = { s with pc := s.pc + BitVec.ofNat 32 (4 * n), hold := s.e1.hold, pendingBranches := s.nextBranches })
      ∨ (s.pendingBranches.find? (fun p => due p.left) = none ∧ issued = none
        ∧ t = { s with hold := s.hold.tick, pendingBranches := s.nextBranches }) := by
  unfold State.advancePc at h
  split at h
  · next p hp => exact .inl ⟨p, hp, by cases h; rfl⟩
  · next hp =>
    split at h
    · next n =>
      split at h
      · next hn => exact .inr (.inl ⟨hp, n, rfl, hn, by cases h; rfl⟩)
      · cases h
    · exact .inr (.inr ⟨hp, rfl, by cases h; rfl⟩)

theorem retire_pc {s t : State} (h : s.retire = .ok t) : t.pc = s.pc := by
  obtain ⟨-, rfl⟩ := retire_ok h; simp
theorem retire_amr {s t : State} (h : s.retire = .ok t) : t.amr = s.amr := by
  obtain ⟨-, rfl⟩ := retire_ok h; simp
theorem retire_csr {s t : State} (h : s.retire = .ok t) : t.csr = s.csr := by
  obtain ⟨-, rfl⟩ := retire_ok h; simp
theorem retire_ifr {s t : State} (h : s.retire = .ok t) : t.ifr = s.ifr := by
  obtain ⟨-, rfl⟩ := retire_ok h; simp
theorem retire_ier {s t : State} (h : s.retire = .ok t) : t.ier = s.ier := by
  obtain ⟨-, rfl⟩ := retire_ok h; simp
theorem retire_istb {s t : State} (h : s.retire = .ok t) : t.istb = s.istb := by
  obtain ⟨-, rfl⟩ := retire_ok h; simp
theorem retire_irp {s t : State} (h : s.retire = .ok t) : t.irp = s.irp := by
  obtain ⟨-, rfl⟩ := retire_ok h; simp
theorem retire_nrp {s t : State} (h : s.retire = .ok t) : t.nrp = s.nrp := by
  obtain ⟨-, rfl⟩ := retire_ok h; simp
theorem retire_mem {s t : State} (h : s.retire = .ok t) : t.mem = s.mem := by
  obtain ⟨-, rfl⟩ := retire_ok h; simp
theorem retire_prog {s t : State} (h : s.retire = .ok t) : t.prog = s.prog := by
  obtain ⟨-, rfl⟩ := retire_ok h; simp
theorem retire_pendingBranches {s t : State} (h : s.retire = .ok t) : t.pendingBranches = s.pendingBranches := by
  obtain ⟨-, rfl⟩ := retire_ok h; simp
theorem retire_branchShadow {s t : State} (h : s.retire = .ok t) : t.branchShadow = s.branchShadow := by
  obtain ⟨-, rfl⟩ := retire_ok h; simp
theorem retire_pendingSat {s t : State} (h : s.retire = .ok t) : t.pendingSat = s.pendingSat := by
  obtain ⟨-, rfl⟩ := retire_ok h; simp
theorem retire_pendingIfr {s t : State} (h : s.retire = .ok t) : t.pendingIfr = s.pendingIfr := by
  obtain ⟨-, rfl⟩ := retire_ok h; simp
theorem retire_hold {s t : State} (h : s.retire = .ok t) : t.hold = s.hold := by
  obtain ⟨-, rfl⟩ := retire_ok h; simp
theorem retire_intLatch {s t : State} (h : s.retire = .ok t) : t.intLatch = s.intLatch := by
  obtain ⟨-, rfl⟩ := retire_ok h; simp
theorem retire_intHold {s t : State} (h : s.retire = .ok t) : t.intHold = s.intHold := by
  obtain ⟨-, rfl⟩ := retire_ok h; simp
theorem retire_entering {s t : State} (h : s.retire = .ok t) : t.entering = s.entering := by
  obtain ⟨-, rfl⟩ := retire_ok h; simp
theorem retire_iack {s t : State} (h : s.retire = .ok t) : t.iack = s.iack := by
  obtain ⟨-, rfl⟩ := retire_ok h; simp
theorem retire_inum {s t : State} (h : s.retire = .ok t) : t.inum = s.inum := by
  obtain ⟨-, rfl⟩ := retire_ok h; simp
theorem retire_power {s t : State} (h : s.retire = .ok t) : t.power = s.power := by
  obtain ⟨-, rfl⟩ := retire_ok h; simp
theorem retire_launch {s t : State} (h : s.retire = .ok t) : t.launch = s.launch := by
  obtain ⟨-, rfl⟩ := retire_ok h; simp
theorem retire_env {s t : State} (h : s.retire = .ok t) : t.env = s.env := by
  obtain ⟨-, rfl⟩ := retire_ok h; simp
theorem retire_e1 {s t : State} (h : s.retire = .ok t) : t.e1 = s.e1 := by
  obtain ⟨-, rfl⟩ := retire_ok h; simp
theorem retire_freeIdx {s t : State} (h : s.retire = .ok t) : t.freeIdx = s.freeIdx := by
  obtain ⟨-, rfl⟩ := retire_ok h; simp

theorem advancePc_a {s t : State} {n : Option Nat} (h : s.advancePc n = .ok t) : t.a = s.a := by
  rcases advancePc_ok h with ⟨p, -, rfl⟩ | ⟨-, n, -, -, rfl⟩ | ⟨-, -, rfl⟩ <;> rfl
theorem advancePc_b {s t : State} {n : Option Nat} (h : s.advancePc n = .ok t) : t.b = s.b := by
  rcases advancePc_ok h with ⟨p, -, rfl⟩ | ⟨-, n, -, -, rfl⟩ | ⟨-, -, rfl⟩ <;> rfl
theorem advancePc_amr {s t : State} {n : Option Nat} (h : s.advancePc n = .ok t) : t.amr = s.amr := by
  rcases advancePc_ok h with ⟨p, -, rfl⟩ | ⟨-, n, -, -, rfl⟩ | ⟨-, -, rfl⟩ <;> rfl
theorem advancePc_csr {s t : State} {n : Option Nat} (h : s.advancePc n = .ok t) : t.csr = s.csr := by
  rcases advancePc_ok h with ⟨p, -, rfl⟩ | ⟨-, n, -, -, rfl⟩ | ⟨-, -, rfl⟩ <;> rfl
theorem advancePc_ifr {s t : State} {n : Option Nat} (h : s.advancePc n = .ok t) : t.ifr = s.ifr := by
  rcases advancePc_ok h with ⟨p, -, rfl⟩ | ⟨-, n, -, -, rfl⟩ | ⟨-, -, rfl⟩ <;> rfl
theorem advancePc_ier {s t : State} {n : Option Nat} (h : s.advancePc n = .ok t) : t.ier = s.ier := by
  rcases advancePc_ok h with ⟨p, -, rfl⟩ | ⟨-, n, -, -, rfl⟩ | ⟨-, -, rfl⟩ <;> rfl
theorem advancePc_istb {s t : State} {n : Option Nat} (h : s.advancePc n = .ok t) : t.istb = s.istb := by
  rcases advancePc_ok h with ⟨p, -, rfl⟩ | ⟨-, n, -, -, rfl⟩ | ⟨-, -, rfl⟩ <;> rfl
theorem advancePc_irp {s t : State} {n : Option Nat} (h : s.advancePc n = .ok t) : t.irp = s.irp := by
  rcases advancePc_ok h with ⟨p, -, rfl⟩ | ⟨-, n, -, -, rfl⟩ | ⟨-, -, rfl⟩ <;> rfl
theorem advancePc_nrp {s t : State} {n : Option Nat} (h : s.advancePc n = .ok t) : t.nrp = s.nrp := by
  rcases advancePc_ok h with ⟨p, -, rfl⟩ | ⟨-, n, -, -, rfl⟩ | ⟨-, -, rfl⟩ <;> rfl
theorem advancePc_mem {s t : State} {n : Option Nat} (h : s.advancePc n = .ok t) : t.mem = s.mem := by
  rcases advancePc_ok h with ⟨p, -, rfl⟩ | ⟨-, n, -, -, rfl⟩ | ⟨-, -, rfl⟩ <;> rfl
theorem advancePc_prog {s t : State} {n : Option Nat} (h : s.advancePc n = .ok t) : t.prog = s.prog := by
  rcases advancePc_ok h with ⟨p, -, rfl⟩ | ⟨-, n, -, -, rfl⟩ | ⟨-, -, rfl⟩ <;> rfl
theorem advancePc_pendingRegs {s t : State} {n : Option Nat} (h : s.advancePc n = .ok t) : t.pendingRegs = s.pendingRegs := by
  rcases advancePc_ok h with ⟨p, -, rfl⟩ | ⟨-, n, -, -, rfl⟩ | ⟨-, -, rfl⟩ <;> rfl
theorem advancePc_branchShadow {s t : State} {n : Option Nat} (h : s.advancePc n = .ok t) : t.branchShadow = s.branchShadow := by
  rcases advancePc_ok h with ⟨p, -, rfl⟩ | ⟨-, n, -, -, rfl⟩ | ⟨-, -, rfl⟩ <;> rfl
theorem advancePc_pendingSat {s t : State} {n : Option Nat} (h : s.advancePc n = .ok t) : t.pendingSat = s.pendingSat := by
  rcases advancePc_ok h with ⟨p, -, rfl⟩ | ⟨-, n, -, -, rfl⟩ | ⟨-, -, rfl⟩ <;> rfl
theorem advancePc_pendingIfr {s t : State} {n : Option Nat} (h : s.advancePc n = .ok t) : t.pendingIfr = s.pendingIfr := by
  rcases advancePc_ok h with ⟨p, -, rfl⟩ | ⟨-, n, -, -, rfl⟩ | ⟨-, -, rfl⟩ <;> rfl
theorem advancePc_intLatch {s t : State} {n : Option Nat} (h : s.advancePc n = .ok t) : t.intLatch = s.intLatch := by
  rcases advancePc_ok h with ⟨p, -, rfl⟩ | ⟨-, n, -, -, rfl⟩ | ⟨-, -, rfl⟩ <;> rfl
theorem advancePc_intHold {s t : State} {n : Option Nat} (h : s.advancePc n = .ok t) : t.intHold = s.intHold := by
  rcases advancePc_ok h with ⟨p, -, rfl⟩ | ⟨-, n, -, -, rfl⟩ | ⟨-, -, rfl⟩ <;> rfl
theorem advancePc_entering {s t : State} {n : Option Nat} (h : s.advancePc n = .ok t) : t.entering = s.entering := by
  rcases advancePc_ok h with ⟨p, -, rfl⟩ | ⟨-, n, -, -, rfl⟩ | ⟨-, -, rfl⟩ <;> rfl
theorem advancePc_iack {s t : State} {n : Option Nat} (h : s.advancePc n = .ok t) : t.iack = s.iack := by
  rcases advancePc_ok h with ⟨p, -, rfl⟩ | ⟨-, n, -, -, rfl⟩ | ⟨-, -, rfl⟩ <;> rfl
theorem advancePc_inum {s t : State} {n : Option Nat} (h : s.advancePc n = .ok t) : t.inum = s.inum := by
  rcases advancePc_ok h with ⟨p, -, rfl⟩ | ⟨-, n, -, -, rfl⟩ | ⟨-, -, rfl⟩ <;> rfl
theorem advancePc_power {s t : State} {n : Option Nat} (h : s.advancePc n = .ok t) : t.power = s.power := by
  rcases advancePc_ok h with ⟨p, -, rfl⟩ | ⟨-, n, -, -, rfl⟩ | ⟨-, -, rfl⟩ <;> rfl
theorem advancePc_launch {s t : State} {n : Option Nat} (h : s.advancePc n = .ok t) : t.launch = s.launch := by
  rcases advancePc_ok h with ⟨p, -, rfl⟩ | ⟨-, n, -, -, rfl⟩ | ⟨-, -, rfl⟩ <;> rfl
theorem advancePc_env {s t : State} {n : Option Nat} (h : s.advancePc n = .ok t) : t.env = s.env := by
  rcases advancePc_ok h with ⟨p, -, rfl⟩ | ⟨-, n, -, -, rfl⟩ | ⟨-, -, rfl⟩ <;> rfl
theorem advancePc_e1 {s t : State} {n : Option Nat} (h : s.advancePc n = .ok t) : t.e1 = s.e1 := by
  rcases advancePc_ok h with ⟨p, -, rfl⟩ | ⟨-, n, -, -, rfl⟩ | ⟨-, -, rfl⟩ <;> rfl
theorem advancePc_freeIdx {s t : State} {n : Option Nat} (h : s.advancePc n = .ok t) : t.freeIdx = s.freeIdx := by
  rcases advancePc_ok h with ⟨p, -, rfl⟩ | ⟨-, n, -, -, rfl⟩ | ⟨-, -, rfl⟩ <;> rfl
theorem advancePc_pendingBranches {s t : State} {n : Option Nat} (h : s.advancePc n = .ok t) :
    t.pendingBranches = s.nextBranches := by
  rcases advancePc_ok h with ⟨p, -, rfl⟩ | ⟨-, n, -, -, rfl⟩ | ⟨-, -, rfl⟩ <;> rfl

/-- The end of a cycle that answers, in its stages. -/
theorem endCycle_next {s t : State} {issued : Option Nat} (h : s.endCycle issued = .next t) :
    ∃ r u, s.retire = .ok r ∧ r.commitStores.updateControl.advancePc issued = .ok u
      ∧ t = (u.countDown s.nextShadow s.wakes).enter s.decision := by
  obtain ⟨r, hr, h⟩ := bind_ok.mp (outcome_next.mp h)
  obtain ⟨u, hu, h⟩ := bind_ok.mp h
  exact ⟨r, u, hr, hu, by cases h; rfl⟩

/-- A step that answers: a reset, or the end of a cycle with no packet, or that of a cycle with one. -/
theorem step_next {s t : State} (h : step s = .next t) :
    (s.envNow.reset = true ∧ t = s.takeEnv.resetEvent)
      ∨ (s.envNow.reset = false ∧ s.takeEnv.held = true ∧ s.takeEnv.endCycle none = .next t)
      ∨ (s.envNow.reset = false ∧ s.takeEnv.held = false ∧ ∃ is u, s.takeEnv.packet = .ok is
          ∧ runPacket is s.takeEnv = .next u ∧ u.endCycle (some is.length) = .next t) := by
  unfold step State.cycle at h
  split at h
  · next hr => exact .inl ⟨hr, by cases h; rfl⟩
  · next hr =>
    have hr : s.envNow.reset = false := by simpa using hr
    split at h
    · next hh => exact .inr (.inl ⟨hr, hh, h⟩)
    · next hh =>
      have hh : s.takeEnv.held = false := by simpa using hh
      split at h
      · next e _ => cases e <;> cases h
      · next is hp =>
        split at h
        · next u hu => exact .inr (.inr ⟨hr, hh, is, u, hp, hu, h⟩)
        · cases h
        · cases h

/-- A relation that holds of every instruction and of nothing done, and passes on, holds of a packet. -/
theorem runPacket_induct (P : State → State → Prop) (refl : ∀ s, P s s)
    (trans : ∀ s t u, P s t → P t u → P s u) (one : ∀ i s t, exec i s = .next t → P s t) (is : List Instr) (s t : State)
    (h : runPacket is s = .next t) : P s t := by
  induction is generalizing s with
  | nil => cases h; exact refl _
  | cons i is ih =>
    unfold runPacket at h
    split at h
    · next u hu => exact trans s u t (one i s u hu) (ih u h)
    · cases h
    · cases h

end Sys2Proof.Machine
end

