-- ==== Sys2Proof/Laws/Encode.lean ====
section
/-! SUPPORT. The fields of an encoded word, format by format, and what the decoder makes of each format: the lemmas from
which the round trip follows. -/

namespace Sys2Proof

@[simp] theorem extract_whole {n : Nat} (v : BitVec n) : v.extractLsb' 0 n = v := by
  ext i hi; simp

/-! ## `encode3` -/

theorem encode3_side (o : Ops3) (op : BitVec 10) : (encode3 o op).extractLsb' 0 2 = sideBits o.side := by
  refine (BitVec.extractLsb'_append_eq_of_add_le (by omega)).trans ?_
  exact extract_whole _

theorem encode3_op_part (o : Ops3) (op : BitVec 10) (start len : Nat) (h : 2 ≤ start) (h' : start + len ≤ 12) :
    (encode3 o op).extractLsb' start len = op.extractLsb' (start - 2) len := by
  refine (BitVec.extractLsb'_append_eq_of_le (by omega)).trans ?_
  refine (BitVec.extractLsb'_append_eq_of_add_le (by omega)).trans ?_
  congr 1

theorem encode3_op (o : Ops3) (op : BitVec 10) : (encode3 o op).extractLsb' 2 10 = op := by
  refine (BitVec.extractLsb'_append_eq_of_le (by omega)).trans ?_
  refine (BitVec.extractLsb'_append_eq_of_add_le (by omega)).trans ?_
  exact extract_whole _

theorem encode3_x (o : Ops3) (op : BitVec 10) : (encode3 o op).extractLsb' 12 1 = BitVec.ofBool o.x := by
  repeat refine (BitVec.extractLsb'_append_eq_of_le (by omega)).trans ?_
  refine (BitVec.extractLsb'_append_eq_of_add_le (by omega)).trans ?_
  exact extract_whole _

theorem encode3_src1 (o : Ops3) (op : BitVec 10) : (encode3 o op).extractLsb' 13 5 = o.src1 := by
  repeat refine (BitVec.extractLsb'_append_eq_of_le (by omega)).trans ?_
  refine (BitVec.extractLsb'_append_eq_of_add_le (by omega)).trans ?_
  exact extract_whole _

theorem encode3_src2 (o : Ops3) (op : BitVec 10) : (encode3 o op).extractLsb' 18 5 = o.src2 := by
  repeat refine (BitVec.extractLsb'_append_eq_of_le (by omega)).trans ?_
  refine (BitVec.extractLsb'_append_eq_of_add_le (by omega)).trans ?_
  exact extract_whole _

theorem encode3_dst (o : Ops3) (op : BitVec 10) : (encode3 o op).extractLsb' 23 5 = o.dst := by
  repeat refine (BitVec.extractLsb'_append_eq_of_le (by omega)).trans ?_
  refine (BitVec.extractLsb'_append_eq_of_add_le (by omega)).trans ?_
  exact extract_whole _

theorem encode3_cond (o : Ops3) (op : BitVec 10) : (encode3 o op).extractLsb' 28 4 = o.cond.bits := by
  repeat refine (BitVec.extractLsb'_append_eq_of_le (by omega)).trans ?_
  exact extract_whole _


/-! ## `encodeD` -/

theorem encodeD_side (o : OpsD) (op : BitVec 6) : (encodeD op o).extractLsb' 0 2 = sideBits o.side := by
  refine (BitVec.extractLsb'_append_eq_of_add_le (by omega)).trans ?_
  exact extract_whole _

theorem encodeD_fixed_part (o : OpsD) (op : BitVec 6) (start len : Nat) (h : 2 ≤ start) (h' : start + len ≤ 7) :
    (encodeD op o).extractLsb' start len = (0b10000#5).extractLsb' (start - 2) len := by
  refine (BitVec.extractLsb'_append_eq_of_le (by omega)).trans ?_
  refine (BitVec.extractLsb'_append_eq_of_add_le (by omega)).trans ?_
  congr 1

theorem encodeD_op_part (o : OpsD) (op : BitVec 6) (start len : Nat) (h : 7 ≤ start) (h' : start + len ≤ 13) :
    (encodeD op o).extractLsb' start len = op.extractLsb' (start - 7) len := by
  repeat refine (BitVec.extractLsb'_append_eq_of_le (by omega)).trans ?_
  refine (BitVec.extractLsb'_append_eq_of_add_le (by omega)).trans ?_
  congr 1

theorem encodeD_op (o : OpsD) (op : BitVec 6) : (encodeD op o).extractLsb' 7 6 = op := by
  repeat refine (BitVec.extractLsb'_append_eq_of_le (by omega)).trans ?_
  refine (BitVec.extractLsb'_append_eq_of_add_le (by omega)).trans ?_
  exact extract_whole _

theorem encodeD_src1 (o : OpsD) (op : BitVec 6) : (encodeD op o).extractLsb' 13 5 = o.src1 := by
  repeat refine (BitVec.extractLsb'_append_eq_of_le (by omega)).trans ?_
  refine (BitVec.extractLsb'_append_eq_of_add_le (by omega)).trans ?_
  exact extract_whole _

theorem encodeD_src2 (o : OpsD) (op : BitVec 6) : (encodeD op o).extractLsb' 18 5 = o.src2 := by
  repeat refine (BitVec.extractLsb'_append_eq_of_le (by omega)).trans ?_
  refine (BitVec.extractLsb'_append_eq_of_add_le (by omega)).trans ?_
  exact extract_whole _

theorem encodeD_dst (o : OpsD) (op : BitVec 6) : (encodeD op o).extractLsb' 23 5 = o.dst := by
  repeat refine (BitVec.extractLsb'_append_eq_of_le (by omega)).trans ?_
  refine (BitVec.extractLsb'_append_eq_of_add_le (by omega)).trans ?_
  exact extract_whole _

theorem encodeD_cond (o : OpsD) (op : BitVec 6) : (encodeD op o).extractLsb' 28 4 = o.cond.bits := by
  repeat refine (BitVec.extractLsb'_append_eq_of_le (by omega)).trans ?_
  exact extract_whole _


/-! ## `encodeK` -/

theorem encodeK_side (o : OpsK) (low : BitVec 5) : (encodeK low o).extractLsb' 0 2 = sideBits o.side := by
  refine (BitVec.extractLsb'_append_eq_of_add_le (by omega)).trans ?_
  exact extract_whole _

theorem encodeK_low_part (o : OpsK) (low : BitVec 5) (start len : Nat) (h : 2 ≤ start) (h' : start + len ≤ 7) :
    (encodeK low o).extractLsb' start len = low.extractLsb' (start - 2) len := by
  refine (BitVec.extractLsb'_append_eq_of_le (by omega)).trans ?_
  refine (BitVec.extractLsb'_append_eq_of_add_le (by omega)).trans ?_
  congr 1

theorem encodeK_low (o : OpsK) (low : BitVec 5) : (encodeK low o).extractLsb' 2 5 = low := by
  refine (BitVec.extractLsb'_append_eq_of_le (by omega)).trans ?_
  refine (BitVec.extractLsb'_append_eq_of_add_le (by omega)).trans ?_
  exact extract_whole _

theorem encodeK_cst (o : OpsK) (low : BitVec 5) : (encodeK low o).extractLsb' 7 16 = o.cst := by
  repeat refine (BitVec.extractLsb'_append_eq_of_le (by omega)).trans ?_
  refine (BitVec.extractLsb'_append_eq_of_add_le (by omega)).trans ?_
  exact extract_whole _

theorem encodeK_dst (o : OpsK) (low : BitVec 5) : (encodeK low o).extractLsb' 23 5 = o.dst := by
  repeat refine (BitVec.extractLsb'_append_eq_of_le (by omega)).trans ?_
  refine (BitVec.extractLsb'_append_eq_of_add_le (by omega)).trans ?_
  exact extract_whole _

theorem encodeK_cond (o : OpsK) (low : BitVec 5) : (encodeK low o).extractLsb' 28 4 = o.cond.bits := by
  repeat refine (BitVec.extractLsb'_append_eq_of_le (by omega)).trans ?_
  exact extract_whole _


/-! ## `encodeField` -/

theorem encodeField_side (o : OpsField) (op : BitVec 2) : (encodeField op o).extractLsb' 0 2 = sideBits o.side := by
  refine (BitVec.extractLsb'_append_eq_of_add_le (by omega)).trans ?_
  exact extract_whole _

theorem encodeField_fixed_part (o : OpsField) (op : BitVec 2) (start len : Nat) (h : 2 ≤ start) (h' : start + len ≤ 6) :
    (encodeField op o).extractLsb' start len = (0b0010#4).extractLsb' (start - 2) len := by
  refine (BitVec.extractLsb'_append_eq_of_le (by omega)).trans ?_
  refine (BitVec.extractLsb'_append_eq_of_add_le (by omega)).trans ?_
  congr 1

theorem encodeField_op_part (o : OpsField) (op : BitVec 2) (start len : Nat) (h : 6 ≤ start) (h' : start + len ≤ 8) :
    (encodeField op o).extractLsb' start len = op.extractLsb' (start - 6) len := by
  repeat refine (BitVec.extractLsb'_append_eq_of_le (by omega)).trans ?_
  refine (BitVec.extractLsb'_append_eq_of_add_le (by omega)).trans ?_
  congr 1

theorem encodeField_op (o : OpsField) (op : BitVec 2) : (encodeField op o).extractLsb' 6 2 = op := by
  repeat refine (BitVec.extractLsb'_append_eq_of_le (by omega)).trans ?_
  refine (BitVec.extractLsb'_append_eq_of_add_le (by omega)).trans ?_
  exact extract_whole _

theorem encodeField_cstb (o : OpsField) (op : BitVec 2) : (encodeField op o).extractLsb' 8 5 = o.cstb := by
  repeat refine (BitVec.extractLsb'_append_eq_of_le (by omega)).trans ?_
  refine (BitVec.extractLsb'_append_eq_of_add_le (by omega)).trans ?_
  exact extract_whole _

theorem encodeField_csta (o : OpsField) (op : BitVec 2) : (encodeField op o).extractLsb' 13 5 = o.csta := by
  repeat refine (BitVec.extractLsb'_append_eq_of_le (by omega)).trans ?_
  refine (BitVec.extractLsb'_append_eq_of_add_le (by omega)).trans ?_
  exact extract_whole _

theorem encodeField_src2 (o : OpsField) (op : BitVec 2) : (encodeField op o).extractLsb' 18 5 = o.src2 := by
  repeat refine (BitVec.extractLsb'_append_eq_of_le (by omega)).trans ?_
  refine (BitVec.extractLsb'_append_eq_of_add_le (by omega)).trans ?_
  exact extract_whole _

theorem encodeField_dst (o : OpsField) (op : BitVec 2) : (encodeField op o).extractLsb' 23 5 = o.dst := by
  repeat refine (BitVec.extractLsb'_append_eq_of_le (by omega)).trans ?_
  refine (BitVec.extractLsb'_append_eq_of_add_le (by omega)).trans ?_
  exact extract_whole _

theorem encodeField_cond (o : OpsField) (op : BitVec 2) : (encodeField op o).extractLsb' 28 4 = o.cond.bits := by
  repeat refine (BitVec.extractLsb'_append_eq_of_le (by omega)).trans ?_
  exact extract_whole _


/-! ## `encodeBr` -/

theorem encodeBr_side (o : OpsBr) : (encodeBr o).extractLsb' 0 2 = sideBits o.side := by
  refine (BitVec.extractLsb'_append_eq_of_add_le (by omega)).trans ?_
  exact extract_whole _

theorem encodeBr_fixed_part (o : OpsBr) (start len : Nat) (h : 2 ≤ start) (h' : start + len ≤ 7) :
    (encodeBr o).extractLsb' start len = (0b00100#5).extractLsb' (start - 2) len := by
  refine (BitVec.extractLsb'_append_eq_of_le (by omega)).trans ?_
  refine (BitVec.extractLsb'_append_eq_of_add_le (by omega)).trans ?_
  congr 1

theorem encodeBr_cst (o : OpsBr) : (encodeBr o).extractLsb' 7 21 = o.cst := by
  repeat refine (BitVec.extractLsb'_append_eq_of_le (by omega)).trans ?_
  refine (BitVec.extractLsb'_append_eq_of_add_le (by omega)).trans ?_
  exact extract_whole _

theorem encodeBr_cond (o : OpsBr) : (encodeBr o).extractLsb' 28 4 = o.cond.bits := by
  repeat refine (BitVec.extractLsb'_append_eq_of_le (by omega)).trans ?_
  exact extract_whole _


/-! ## `encodeMem` -/

theorem encodeMem_side (o : OpsMem) (op : BitVec 3) : (encodeMem op o).extractLsb' 0 2 = sideBits o.side := by
  refine (BitVec.extractLsb'_append_eq_of_add_le (by omega)).trans ?_
  exact extract_whole _

theorem encodeMem_fixed_part (o : OpsMem) (op : BitVec 3) (start len : Nat) (h : 2 ≤ start) (h' : start + len ≤ 4) :
    (encodeMem op o).extractLsb' start len = (0b01#2).extractLsb' (start - 2) len := by
  refine (BitVec.extractLsb'_append_eq_of_le (by omega)).trans ?_
  refine (BitVec.extractLsb'_append_eq_of_add_le (by omega)).trans ?_
  congr 1

theorem encodeMem_op_part (o : OpsMem) (op : BitVec 3) (start len : Nat) (h : 4 ≤ start) (h' : start + len ≤ 7) :
    (encodeMem op o).extractLsb' start len = op.extractLsb' (start - 4) len := by
  repeat refine (BitVec.extractLsb'_append_eq_of_le (by omega)).trans ?_
  refine (BitVec.extractLsb'_append_eq_of_add_le (by omega)).trans ?_
  congr 1

theorem encodeMem_op (o : OpsMem) (op : BitVec 3) : (encodeMem op o).extractLsb' 4 3 = op := by
  repeat refine (BitVec.extractLsb'_append_eq_of_le (by omega)).trans ?_
  refine (BitVec.extractLsb'_append_eq_of_add_le (by omega)).trans ?_
  exact extract_whole _

theorem encodeMem_unit (o : OpsMem) (op : BitVec 3) : (encodeMem op o).extractLsb' 7 1 = BitVec.ofBool o.unit.bit := by
  repeat refine (BitVec.extractLsb'_append_eq_of_le (by omega)).trans ?_
  refine (BitVec.extractLsb'_append_eq_of_add_le (by omega)).trans ?_
  exact extract_whole _

theorem encodeMem_r (o : OpsMem) (op : BitVec 3) : (encodeMem op o).extractLsb' 8 1 = 0b0#1 := by
  repeat refine (BitVec.extractLsb'_append_eq_of_le (by omega)).trans ?_
  refine (BitVec.extractLsb'_append_eq_of_add_le (by omega)).trans ?_
  exact extract_whole _

theorem encodeMem_mode (o : OpsMem) (op : BitVec 3) : (encodeMem op o).extractLsb' 9 4 = o.mode.bits := by
  repeat refine (BitVec.extractLsb'_append_eq_of_le (by omega)).trans ?_
  refine (BitVec.extractLsb'_append_eq_of_add_le (by omega)).trans ?_
  exact extract_whole _

theorem encodeMem_offset (o : OpsMem) (op : BitVec 3) : (encodeMem op o).extractLsb' 13 5 = o.offset := by
  repeat refine (BitVec.extractLsb'_append_eq_of_le (by omega)).trans ?_
  refine (BitVec.extractLsb'_append_eq_of_add_le (by omega)).trans ?_
  exact extract_whole _

theorem encodeMem_base (o : OpsMem) (op : BitVec 3) : (encodeMem op o).extractLsb' 18 5 = o.base := by
  repeat refine (BitVec.extractLsb'_append_eq_of_le (by omega)).trans ?_
  refine (BitVec.extractLsb'_append_eq_of_add_le (by omega)).trans ?_
  exact extract_whole _

theorem encodeMem_data (o : OpsMem) (op : BitVec 3) : (encodeMem op o).extractLsb' 23 5 = o.data := by
  repeat refine (BitVec.extractLsb'_append_eq_of_le (by omega)).trans ?_
  refine (BitVec.extractLsb'_append_eq_of_add_le (by omega)).trans ?_
  exact extract_whole _

theorem encodeMem_cond (o : OpsMem) (op : BitVec 3) : (encodeMem op o).extractLsb' 28 4 = o.cond.bits := by
  repeat refine (BitVec.extractLsb'_append_eq_of_le (by omega)).trans ?_
  exact extract_whole _


/-! ## `encodeMem15` -/

theorem encodeMem15_side (o : OpsMem15) (op : BitVec 3) : (encodeMem15 op o).extractLsb' 0 2 = sideBits o.side := by
  refine (BitVec.extractLsb'_append_eq_of_add_le (by omega)).trans ?_
  exact extract_whole _

theorem encodeMem15_fixed_part (o : OpsMem15) (op : BitVec 3) (start len : Nat) (h : 2 ≤ start) (h' : start + len ≤ 4) :
    (encodeMem15 op o).extractLsb' start len = (0b11#2).extractLsb' (start - 2) len := by
  refine (BitVec.extractLsb'_append_eq_of_le (by omega)).trans ?_
  refine (BitVec.extractLsb'_append_eq_of_add_le (by omega)).trans ?_
  congr 1

theorem encodeMem15_op_part (o : OpsMem15) (op : BitVec 3) (start len : Nat) (h : 4 ≤ start) (h' : start + len ≤ 7) :
    (encodeMem15 op o).extractLsb' start len = op.extractLsb' (start - 4) len := by
  repeat refine (BitVec.extractLsb'_append_eq_of_le (by omega)).trans ?_
  refine (BitVec.extractLsb'_append_eq_of_add_le (by omega)).trans ?_
  congr 1

theorem encodeMem15_op (o : OpsMem15) (op : BitVec 3) : (encodeMem15 op o).extractLsb' 4 3 = op := by
  repeat refine (BitVec.extractLsb'_append_eq_of_le (by omega)).trans ?_
  refine (BitVec.extractLsb'_append_eq_of_add_le (by omega)).trans ?_
  exact extract_whole _

theorem encodeMem15_y (o : OpsMem15) (op : BitVec 3) : (encodeMem15 op o).extractLsb' 7 1 = BitVec.ofBool o.fromB15 := by
  repeat refine (BitVec.extractLsb'_append_eq_of_le (by omega)).trans ?_
  refine (BitVec.extractLsb'_append_eq_of_add_le (by omega)).trans ?_
  exact extract_whole _

theorem encodeMem15_offset (o : OpsMem15) (op : BitVec 3) : (encodeMem15 op o).extractLsb' 8 15 = o.offset := by
  repeat refine (BitVec.extractLsb'_append_eq_of_le (by omega)).trans ?_
  refine (BitVec.extractLsb'_append_eq_of_add_le (by omega)).trans ?_
  exact extract_whole _

theorem encodeMem15_data (o : OpsMem15) (op : BitVec 3) : (encodeMem15 op o).extractLsb' 23 5 = o.data := by
  repeat refine (BitVec.extractLsb'_append_eq_of_le (by omega)).trans ?_
  refine (BitVec.extractLsb'_append_eq_of_add_le (by omega)).trans ?_
  exact extract_whole _

theorem encodeMem15_cond (o : OpsMem15) (op : BitVec 3) : (encodeMem15 op o).extractLsb' 28 4 = o.cond.bits := by
  repeat refine (BitVec.extractLsb'_append_eq_of_le (by omega)).trans ?_
  exact extract_whole _


/-! ## Conditions, sides and operands -/

theorem getLsbD_eq_extract (w : Word) (k : Nat) : w.getLsbD k = (w.extractLsb' k 1).getLsbD 0 := by
  simp

@[simp] theorem Side.ofBit_bit (s : Side) : Side.ofBit s.bit = s := by cases s <;> rfl

/-- The condition of a word whose top four bits are those of a condition. -/
theorem wordCond_of_bits (w : Word) (c : Cond) (h : w.extractLsb' 28 4 = c.bits) : wordCond w = .ok c := by
  have h3 : w.extractLsb' 29 3 = c.bits.extractLsb' 1 3 := by
    rw [← h]; ext i hi; simp [BitVec.getLsbD_extractLsb']
    rw [show 28 + (1 + i) = 29 + i by omega]; simp; omega
  have h1 : w.getLsbD 28 = c.bits.getLsbD 0 := by
    rw [← h]; simp
  unfold wordCond
  rw [h3, h1]
  cases c with
  | always => rfl
  | nonzero r => cases r <;> rfl
  | zero r => cases r <;> rfl

/-- The side of a word whose low two bits are those of a side. -/
theorem wordSide_of_bits (w : Word) (s : Side) (h : w.extractLsb' 0 2 = sideBits s) : wordSide w = s := by
  have h1 : w.getLsbD 1 = (sideBits s).getLsbD 1 := by rw [← h]; simp
  unfold wordSide
  rw [h1]
  cases s <;> rfl

@[simp] theorem AddrMode.ofBits_bits (m : AddrMode) : AddrMode.ofBits m.bits = some m := by
  cases m <;> rfl

theorem wordOps3_encode3 (o : Ops3) (op : BitVec 10) : wordOps3 (encode3 o op) o.cond = o := by
  unfold wordOps3
  rw [wordSide_of_bits _ o.side (encode3_side o op), getLsbD_eq_extract, encode3_x, encode3_dst, encode3_src2,
    encode3_src1]
  cases o; simp

theorem wordOpsD_encodeD (o : OpsD) (op : BitVec 6) : wordOpsD (encodeD op o) o.cond = o := by
  unfold wordOpsD
  rw [wordSide_of_bits _ o.side (encodeD_side o op), encodeD_dst, encodeD_src2, encodeD_src1]

theorem wordOpsK_encodeK (o : OpsK) (low : BitVec 5) : wordOpsK (encodeK low o) o.cond = o := by
  unfold wordOpsK
  rw [wordSide_of_bits _ o.side (encodeK_side o low), encodeK_dst, encodeK_cst]

theorem wordOpsField_encodeField (o : OpsField) (op : BitVec 2) :
    wordOpsField (encodeField op o) o.cond = o := by
  unfold wordOpsField
  rw [wordSide_of_bits _ o.side (encodeField_side o op), encodeField_dst, encodeField_src2, encodeField_csta,
    encodeField_cstb]

theorem wordOpsBr_encodeBr (o : OpsBr) : wordOpsBr (encodeBr o) o.cond = o := by
  unfold wordOpsBr
  rw [wordSide_of_bits _ o.side (encodeBr_side o), encodeBr_cst]

theorem wordOpsMem_encodeMem (o : OpsMem) (op : BitVec 3) : wordOpsMem (encodeMem op o) o.cond o.mode = o := by
  unfold wordOpsMem
  rw [wordSide_of_bits _ o.side (encodeMem_side o op), getLsbD_eq_extract, encodeMem_unit, encodeMem_data,
    encodeMem_base, encodeMem_offset]
  cases o; simp

theorem wordOpsMem15_encodeMem15 (o : OpsMem15) (op : BitVec 3) : wordOpsMem15 (encodeMem15 op o) o.cond = o := by
  unfold wordOpsMem15
  rw [wordSide_of_bits _ o.side (encodeMem15_side o op), getLsbD_eq_extract, encodeMem15_y, encodeMem15_data,
    encodeMem15_offset]
  cases o; simp

/-- The fields of B IRP and B NRP are those of the .S format, but for src2. -/
theorem wordOpsRet_eq (w : Word) (c : Cond) :
    wordOpsRet w c = { cond := c, side := (wordOps3 w c).side, x := (wordOps3 w c).x, dst := (wordOps3 w c).dst
                       src1 := (wordOps3 w c).src1 } := rfl

theorem wordOpsRet_encodeRet (o : OpsRet) (src2 : BitVec 5) : wordOpsRet (encodeRet src2 o) o.cond = o := by
  have h := wordOps3_encode3
    { cond := o.cond, side := o.side, x := o.x, dst := o.dst, src2 := src2, src1 := o.src1 } (0b000011#6 ++ 0b1000#4)
  have h' : wordOps3 (encodeRet src2 o) o.cond
    = { cond := o.cond, side := o.side, x := o.x, dst := o.dst, src2 := src2, src1 := o.src1 } := h
  rw [wordOpsRet_eq, h']

/-! ## The format of an encoded word -/

/-- An op table that lists the op, then the operands. -/
theorem decodeFormat_encodeL (op : BitVec 7) (o : Ops3) (f : Ops3 → Instr) (h : listedOp opsL op = .ok f) :
    decodeFormat (encodeL op o) = .ok (f o) := by
  have h2 : (encodeL op o).extractLsb' 2 2 = 0b10#2 :=
    (encode3_op_part o (op ++ 0b110#3) 2 2 (by omega) (by omega)).trans
      (BitVec.extractLsb'_append_eq_of_add_le (by omega))
  have h4 : (encodeL op o).getLsbD 4 = true := by
    rw [getLsbD_eq_extract, encodeL, encode3_op_part o _ 4 1 (by omega) (by omega),
      BitVec.extractLsb'_append_eq_of_add_le (by omega)]
    rfl
  have h5 : (encodeL op o).extractLsb' 5 7 = op :=
    (encode3_op_part o (op ++ 0b110#3) 5 7 (by omega) (by omega)).trans
      ((BitVec.extractLsb'_append_eq_of_le (by omega)).trans (extract_whole op))
  have hc : wordCond (encodeL op o) = .ok o.cond := wordCond_of_bits _ _ (encode3_cond o _)
  have ho : wordOps3 (encodeL op o) o.cond = o := wordOps3_encode3 o _
  simp [decodeFormat, decodeL, h2, h4, h5, h, hc, bind, Except.bind, ho]

theorem decodeFormat_encodeM (op : BitVec 5) (o : Ops3) (f : Ops3 → Instr) (h0 : op ≠ 0)
    (h : listedOp opsM op = .ok f) : decodeFormat (encodeM op o) = .ok (f o) := by
  have h2 : (encodeM op o).extractLsb' 2 2 = 0b00#2 :=
    (encode3_op_part o (op ++ 0b00000#5) 2 2 (by omega) (by omega)).trans
      (BitVec.extractLsb'_append_eq_of_add_le (by omega))
  have h3 : (encodeM op o).extractLsb' 4 3 = 0b000#3 :=
    (encode3_op_part o (op ++ 0b00000#5) 4 3 (by omega) (by omega)).trans
      (BitVec.extractLsb'_append_eq_of_add_le (by omega))
  have h4 : (encodeM op o).extractLsb' 4 2 = 0b00#2 :=
    (encode3_op_part o (op ++ 0b00000#5) 4 2 (by omega) (by omega)).trans
      (BitVec.extractLsb'_append_eq_of_add_le (by omega))
  have h5 : (encodeM op o).extractLsb' 7 5 = op :=
    (encode3_op_part o (op ++ 0b00000#5) 7 5 (by omega) (by omega)).trans
      ((BitVec.extractLsb'_append_eq_of_le (by omega)).trans (extract_whole op))
  have hc : wordCond (encodeM op o) = .ok o.cond := wordCond_of_bits _ _ (encode3_cond o _)
  have ho : wordOps3 (encodeM op o) o.cond = o := wordOps3_encode3 o _
  simp only [decodeFormat, decodeM, h2, h3, h4, h5, if_neg h0, h, hc, bind, Except.bind, ho]
  rfl

/-- The bits that say a word is of the .S format. -/
theorem decodeFormat_encodeS_shape (op : BitVec 6) (o : Ops3) :
    decodeFormat (encodeS op o) = decodeS (encodeS op o) := by
  have h2 : (encodeS op o).extractLsb' 2 2 = 0b00#2 :=
    (encode3_op_part o (op ++ 0b1000#4) 2 2 (by omega) (by omega)).trans
      (BitVec.extractLsb'_append_eq_of_add_le (by omega))
  have h4 : (encodeS op o).extractLsb' 4 2 = 0b10#2 :=
    (encode3_op_part o (op ++ 0b1000#4) 4 2 (by omega) (by omega)).trans
      (BitVec.extractLsb'_append_eq_of_add_le (by omega))
  simp [decodeFormat, h2, h4]

theorem encodeS_op (op : BitVec 6) (o : Ops3) : (encodeS op o).extractLsb' 6 6 = op :=
  (encode3_op_part o (op ++ 0b1000#4) 6 6 (by omega) (by omega)).trans
    ((BitVec.extractLsb'_append_eq_of_le (by omega)).trans (extract_whole op))

theorem decodeFormat_encodeS (op : BitVec 6) (o : Ops3) (f : Ops3 → Instr) (h0 : op ≠ 0b000011)
    (h : listedOp opsS op = .ok f) : decodeFormat (encodeS op o) = .ok (f o) := by
  have h5 := encodeS_op op o
  have hc : wordCond (encodeS op o) = .ok o.cond := wordCond_of_bits _ _ (encode3_cond o _)
  have ho : wordOps3 (encodeS op o) o.cond = o := wordOps3_encode3 o _
  rw [decodeFormat_encodeS_shape]
  simp only [decodeS, h5, if_neg h0, h, hc, bind, Except.bind, ho]

theorem decodeFormat_encodeIrp (o : OpsRet) : decodeFormat (encodeRet 0b00110 o) = .ok (.bIrp o) := by
  have h5 : (encodeRet 0b00110 o).extractLsb' 6 6 = 0b000011 := encodeS_op _ _
  have h18 : (encodeRet 0b00110 o).extractLsb' 18 5 = 0b00110 := encode3_src2 _ _
  have hc : wordCond (encodeRet 0b00110 o) = .ok o.cond := wordCond_of_bits _ _ (encode3_cond _ _)
  have hs : decodeFormat (encodeRet 0b00110 o) = decodeS (encodeRet 0b00110 o) := decodeFormat_encodeS_shape _ _
  rw [hs]
  simp only [decodeS, h5, h18, if_true, hc, bind, Except.bind, wordOpsRet_encodeRet]

theorem decodeFormat_encodeNrp (o : OpsRet) : decodeFormat (encodeRet 0b00111 o) = .ok (.bNrp o) := by
  have h5 : (encodeRet 0b00111 o).extractLsb' 6 6 = 0b000011 := encodeS_op _ _
  have h18 : (encodeRet 0b00111 o).extractLsb' 18 5 = 0b00111 := encode3_src2 _ _
  have hc : wordCond (encodeRet 0b00111 o) = .ok o.cond := wordCond_of_bits _ _ (encode3_cond _ _)
  have hs : decodeFormat (encodeRet 0b00111 o) = decodeS (encodeRet 0b00111 o) := decodeFormat_encodeS_shape _ _
  have hn : ¬ ((0b00111 : BitVec 5) = 0b00110) := by decide
  rw [hs]
  simp only [decodeS, h5, h18, if_neg hn, if_true, hc, bind, Except.bind, wordOpsRet_encodeRet]

theorem decodeFormat_encodeD (op : BitVec 6) (o : OpsD) (f : OpsD → Instr) (h : listedOp opsD op = .ok f) :
    decodeFormat (encodeD op o) = .ok (f o) := by
  have h2 : (encodeD op o).extractLsb' 2 2 = 0b00#2 := encodeD_fixed_part o op 2 2 (by omega) (by omega)
  have h3 : (encodeD op o).extractLsb' 4 3 = 0b100#3 := encodeD_fixed_part o op 4 3 (by omega) (by omega)
  have h4 : (encodeD op o).extractLsb' 4 2 = 0b00#2 := encodeD_fixed_part o op 4 2 (by omega) (by omega)
  have h5 := encodeD_op o op
  have hc : wordCond (encodeD op o) = .ok o.cond := wordCond_of_bits _ _ (encodeD_cond o op)
  have ho := wordOpsD_encodeD o op
  simp only [decodeFormat, decodeD, h2, h3, h4, h5, h, hc, bind, Except.bind, ho]
  rfl

theorem decodeFormat_encodeAddk (o : OpsK) : decodeFormat (encodeK 0b10100 o) = .ok (.addk o) := by
  have h2 : (encodeK 0b10100 o).extractLsb' 2 2 = 0b00#2 := encodeK_low_part o _ 2 2 (by omega) (by omega)
  have h3 : (encodeK 0b10100 o).extractLsb' 4 3 = 0b101#3 := encodeK_low_part o _ 4 3 (by omega) (by omega)
  have h4 : (encodeK 0b10100 o).extractLsb' 4 2 = 0b01#2 := encodeK_low_part o _ 4 2 (by omega) (by omega)
  have hc : wordCond (encodeK 0b10100 o) = .ok o.cond := wordCond_of_bits _ _ (encodeK_cond o _)
  have ho := wordOpsK_encodeK o 0b10100
  simp only [decodeFormat, decodeAddk, h2, h3, h4, hc, bind, Except.bind, ho]
  rfl

theorem decodeFormat_encodeMvk (o : OpsK) : decodeFormat (encodeK 0b01010 o) = .ok (.mvk o) := by
  have h2 : (encodeK 0b01010 o).extractLsb' 2 2 = 0b10#2 := encodeK_low_part o _ 2 2 (by omega) (by omega)
  have b4 : (encodeK 0b01010 o).getLsbD 4 = false := by
    rw [getLsbD_eq_extract, encodeK_low_part o _ 4 1 (by omega) (by omega)]; rfl
  have b5 : (encodeK 0b01010 o).getLsbD 5 = true := by
    rw [getLsbD_eq_extract, encodeK_low_part o _ 5 1 (by omega) (by omega)]; rfl
  have b6 : (encodeK 0b01010 o).getLsbD 6 = false := by
    rw [getLsbD_eq_extract, encodeK_low_part o _ 6 1 (by omega) (by omega)]; rfl
  have hc : wordCond (encodeK 0b01010 o) = .ok o.cond := wordCond_of_bits _ _ (encodeK_cond o _)
  have ho := wordOpsK_encodeK o 0b01010
  simp only [decodeFormat, decodeMvk, h2, b4, b5, b6, hc, bind, Except.bind, ho]
  rfl

theorem decodeFormat_encodeMvkh (o : OpsK) : decodeFormat (encodeK 0b11010 o) = .ok (.mvkh o) := by
  have h2 : (encodeK 0b11010 o).extractLsb' 2 2 = 0b10#2 := encodeK_low_part o _ 2 2 (by omega) (by omega)
  have b4 : (encodeK 0b11010 o).getLsbD 4 = false := by
    rw [getLsbD_eq_extract, encodeK_low_part o _ 4 1 (by omega) (by omega)]; rfl
  have b5 : (encodeK 0b11010 o).getLsbD 5 = true := by
    rw [getLsbD_eq_extract, encodeK_low_part o _ 5 1 (by omega) (by omega)]; rfl
  have b6 : (encodeK 0b11010 o).getLsbD 6 = true := by
    rw [getLsbD_eq_extract, encodeK_low_part o _ 6 1 (by omega) (by omega)]; rfl
  have hc : wordCond (encodeK 0b11010 o) = .ok o.cond := wordCond_of_bits _ _ (encodeK_cond o _)
  have ho := wordOpsK_encodeK o 0b11010
  simp only [decodeFormat, decodeMvk, h2, b4, b5, b6, hc, bind, Except.bind, ho]
  rfl

theorem decodeFormat_encodeField (op : BitVec 2) (o : OpsField) (f : OpsField → Instr)
    (h : listedOp opsField op = .ok f) : decodeFormat (encodeField op o) = .ok (f o) := by
  have h2 : (encodeField op o).extractLsb' 2 2 = 0b10#2 := encodeField_fixed_part o op 2 2 (by omega) (by omega)
  have b4 : (encodeField op o).getLsbD 4 = false := by
    rw [getLsbD_eq_extract, encodeField_fixed_part o _ 4 1 (by omega) (by omega)]; rfl
  have b5 : (encodeField op o).getLsbD 5 = false := by
    rw [getLsbD_eq_extract, encodeField_fixed_part o _ 5 1 (by omega) (by omega)]; rfl
  have h6 := encodeField_op o op
  have hc : wordCond (encodeField op o) = .ok o.cond := wordCond_of_bits _ _ (encodeField_cond o op)
  have ho := wordOpsField_encodeField o op
  simp only [decodeFormat, decodeField, h2, b4, b5, h6, h, hc, bind, Except.bind, ho]
  rfl

theorem decodeFormat_encodeBr (o : OpsBr) : decodeFormat (encodeBr o) = .ok (.bDisp o) := by
  have h2 : (encodeBr o).extractLsb' 2 2 = 0b00#2 := encodeBr_fixed_part o 2 2 (by omega) (by omega)
  have h3 : (encodeBr o).extractLsb' 4 3 = 0b001#3 := encodeBr_fixed_part o 4 3 (by omega) (by omega)
  have h4 : (encodeBr o).extractLsb' 4 2 = 0b01#2 := encodeBr_fixed_part o 4 2 (by omega) (by omega)
  have hc : wordCond (encodeBr o) = .ok o.cond := wordCond_of_bits _ _ (encodeBr_cond o)
  have ho := wordOpsBr_encodeBr o
  simp only [decodeFormat, decodeBr, h2, h3, h4, hc, bind, Except.bind, ho]
  rfl

theorem decodeFormat_encodeMem (op : BitVec 3) (o : OpsMem) (f : OpsMem → Instr) (h : listedOp opsMem op = .ok f) :
    decodeFormat (encodeMem op o) = .ok (f o) := by
  have h2 : (encodeMem op o).extractLsb' 2 2 = 0b01#2 := encodeMem_fixed_part o op 2 2 (by omega) (by omega)
  have b8 : (encodeMem op o).getLsbD 8 = false := by rw [getLsbD_eq_extract, encodeMem_r]; rfl
  have h4 := encodeMem_op o op
  have hm := encodeMem_mode o op
  have hc : wordCond (encodeMem op o) = .ok o.cond := wordCond_of_bits _ _ (encodeMem_cond o op)
  have ho := wordOpsMem_encodeMem o op
  simp only [decodeFormat, decodeMem, h2, b8, h4, hm, h, hc, bind, Except.bind, ho, AddrMode.ofBits_bits]
  rfl

theorem decodeFormat_encodeMem15 (op : BitVec 3) (o : OpsMem15) (f : OpsMem15 → Instr)
    (h : listedOp opsMem15 op = .ok f) : decodeFormat (encodeMem15 op o) = .ok (f o) := by
  have h2 : (encodeMem15 op o).extractLsb' 2 2 = 0b11#2 := encodeMem15_fixed_part o op 2 2 (by omega) (by omega)
  have h4 := encodeMem15_op o op
  have hc : wordCond (encodeMem15 op o) = .ok o.cond := wordCond_of_bits _ _ (encodeMem15_cond o op)
  have ho := wordOpsMem15_encodeMem15 o op
  simp only [decodeFormat, decodeMem15, h2, h4, h, hc, bind, Except.bind, ho]
  rfl

theorem decodeFormat_encodeNop (n : BitVec 3) : decodeFormat (encode (.nop n)) = .ok (.nop n) := by
  have : n = 0 ∨ n = 1 ∨ n = 2 ∨ n = 3 ∨ n = 4 ∨ n = 5 ∨ n = 6 ∨ n = 7 := by revert n; decide
  rcases this with rfl | rfl | rfl | rfl | rfl | rfl | rfl | rfl <;> rfl

/-! ## Pseudo-operations -/

/-- A pseudo-operation has the fields of the machine instruction it stands for. -/
theorem fieldError_expand (i : Instr) : i.expand.fieldError = i.fieldError := by
  cases i <;> rfl

/-- A pseudo-operation has the word of the machine instruction it stands for. -/
theorem encode_expand (i : Instr) : encode i.expand = encode i := by
  cases i <;> rfl

end Sys2Proof
end

