-- ==== Sys2Proof/Laws/EndCycle.lean ====
section
/-! SUPPORT. The end of a cycle, taken apart once: with `endCycle_next` giving the stages r and u, what u holds of each
part of the state in terms of the state s at the start of the end of the cycle. -/

namespace Sys2Proof.Machine

variable {s r u : State} {n : Option Nat}

/-! ## Control-register writes -/

/-- The fields that control-register writes touch depend on nothing else. -/
theorem applyCtrls_congr (cs : List CtrlWrite) (x y : State)
    (h : x.amr = y.amr ∧ x.csr = y.csr ∧ x.ier = y.ier ∧ x.istb = y.istb ∧ x.irp = y.irp ∧ x.nrp = y.nrp
      ∧ x.pendingIfr = y.pendingIfr ∧ x.power = y.power) :
    let p := cs.foldl State.applyCtrl x
    let q := cs.foldl State.applyCtrl y
    p.amr = q.amr ∧ p.csr = q.csr ∧ p.ier = q.ier ∧ p.istb = q.istb ∧ p.irp = q.irp ∧ p.nrp = q.nrp
      ∧ p.pendingIfr = q.pendingIfr ∧ p.power = q.power := by
  induction cs generalizing x y with
  | nil => exact h
  | cons c cs ih =>
    apply ih
    obtain ⟨h1, h2, h3, h4, h5, h6, h7, h8⟩ := h
    cases c <;> simp [State.applyCtrl, State.pgie, h1, h2, h3, h4, h5, h6, h7, h8]

/-- A value that no write of a list changes. -/
theorem applyCtrls_keep {α : Type} (g : State → α) (cs : List CtrlWrite)
    (h : ∀ c ∈ cs, ∀ x : State, g (x.applyCtrl c) = g x) (x : State) : g (cs.foldl State.applyCtrl x) = g x := by
  induction cs generalizing x with
  | nil => rfl
  | cons c cs ih =>
    rw [List.foldl_cons, ih (fun d hd => h d (List.mem_cons_of_mem _ hd)), h c List.mem_cons_self]

/-- The control registers after D.2 and D.3. -/
theorem endCycle_ctrl (hr : s.retire = .ok r) (hu : r.commitStores.updateControl.advancePc n = .ok u) :
    let w := s.e1.ctrl.foldl State.applyCtrl s.updateFlags
    u.amr = w.amr ∧ u.csr = (if s.pendingSat.any due then setBit w.csr 9 true else w.csr) ∧ u.ier = w.ier
      ∧ u.istb = w.istb ∧ u.irp = w.irp ∧ u.nrp = w.nrp ∧ u.pendingIfr = w.pendingIfr ∧ u.power = w.power := by
  have he : r.commitStores.e1 = s.e1 := by simp [retire_e1 hr]
  have hs : r.commitStores.pendingSat = s.pendingSat := by simp [retire_pendingSat hr]
  have hf : ∀ x : State, x.updateFlags.pendingSat = x.pendingSat := fun _ => rfl
  have h := applyCtrls_congr s.e1.ctrl r.commitStores.updateFlags s.updateFlags (by
    obtain ⟨-, rfl⟩ := retire_ok hr
    simp [State.updateFlags, State.commitStores])
  obtain ⟨h1, h2, h3, h4, h5, h6, h7, h8⟩ := h
  rw [advancePc_amr hu, advancePc_csr hu, advancePc_ier hu, advancePc_istb hu, advancePc_irp hu, advancePc_nrp hu,
    advancePc_pendingIfr hu, advancePc_power hu]
  simp only [State.updateControl, State.updateSat, he, State.applyCtrls_pendingSat, hf, hs]
  rw [h2]
  exact ⟨h1, rfl, h3, h4, h5, h6, h7, h8⟩

/-! ## The rest -/

/-- IFR, the outputs, and what no part of D.1 to D.3 changes. -/
theorem endCycle_flags (hr : s.retire = .ok r) (hu : r.commitStores.updateControl.advancePc n = .ok u) :
    u.ifr = s.nextIfr ∧ u.intLatch = 0 ∧ u.iack = decide (s.intHold = 6)
      ∧ u.inum = (if s.intHold = 6 then s.entering else 0) ∧ u.intHold = s.intHold ∧ u.entering = s.entering
      ∧ u.env = s.env ∧ u.launch = s.launch ∧ u.freeIdx = s.freeIdx := by
  rw [advancePc_ifr hu, advancePc_intLatch hu, advancePc_iack hu, advancePc_inum hu, advancePc_intHold hu,
    advancePc_entering hu, advancePc_env hu, advancePc_launch hu, advancePc_freeIdx hu]
  obtain ⟨-, rfl⟩ := retire_ok hr
  simp [State.updateControl, State.updateSat, State.commitStores, State.updateFlags, State.nextIfr, State.hardwareClear]

/-- The two memories after the packet's stores. -/
theorem endCycle_memory (hr : s.retire = .ok r) (hu : r.commitStores.updateControl.advancePc n = .ok u) :
    u.mem = s.mem.writeAll s.e1.stores ∧ u.prog = s.prog := by
  rw [advancePc_mem hu, advancePc_prog hu]
  simp [State.updateControl, retire_mem hr, retire_prog hr, retire_e1 hr]

/-- The register files, and the results, branches and SAT requests in flight. -/
theorem endCycle_inFlight (hr : s.retire = .ok r) (hu : r.commitStores.updateControl.advancePc n = .ok u) :
    u.a = (s.landing.foldl State.writeReg s).a ∧ u.b = (s.landing.foldl State.writeReg s).b
      ∧ u.pendingRegs = stillLate s.pendingRegs ++ s.e1.late ∧ u.pendingBranches = s.nextBranches
      ∧ u.pendingSat = (s.pendingSat.filter (fun k => !due k)).map (· - 1) ++ s.e1.sat := by
  rw [advancePc_a hu, advancePc_b hu, advancePc_pendingRegs hu, advancePc_pendingBranches hu, advancePc_pendingSat hu]
  obtain ⟨-, rfl⟩ := retire_ok hr
  simp [State.updateControl, State.updateSat, State.commitStores, State.nextBranches]

/-- The program pointer and the hold: a branch due, or past the packet that issued, or held. -/
theorem endCycle_pc (hr : s.retire = .ok r) (hu : r.commitStores.updateControl.advancePc n = .ok u) :
    (∃ p, s.pendingBranches.find? (fun p => due p.left) = some p ∧ u.pc = p.target ∧ u.hold = .count 0)
      ∨ (s.pendingBranches.find? (fun p => due p.left) = none ∧ ∃ k, n = some k ∧ s.pc.toNat + 4 * k < 4294967296
        ∧ u.pc = s.pc + BitVec.ofNat 32 (4 * k) ∧ u.hold = s.e1.hold)
      ∨ (s.pendingBranches.find? (fun p => due p.left) = none ∧ n = none ∧ u.pc = s.pc ∧ u.hold = s.hold.tick) := by
  have hb : r.commitStores.updateControl.pendingBranches = s.pendingBranches := by
    simp [State.updateControl, retire_pendingBranches hr]
  have hp : r.commitStores.updateControl.pc = s.pc := by simp [State.updateControl, retire_pc hr]
  have hh : r.commitStores.updateControl.hold = s.hold := by simp [State.updateControl, retire_hold hr]
  have he : r.commitStores.updateControl.e1 = s.e1 := by simp [State.updateControl, retire_e1 hr]
  have h := advancePc_ok hu
  rw [hb, hp, hh, he] at h
  rcases h with ⟨p, h, rfl⟩ | ⟨h, k, hk, hl, rfl⟩ | ⟨h, hn, rfl⟩
  · exact .inl ⟨p, h, rfl, rfl⟩
  · exact .inr (.inl ⟨h, k, hk, hl, rfl, rfl⟩)
  · exact .inr (.inr ⟨h, hn, rfl, rfl⟩)

/-! ## The decision -/

/-- The lowest number of a set of interrupts. -/
theorem lowestSet_eq_some (v : BitVec 16) (m : BitVec 4) :
    lowestSet v = some m ↔ v.getLsbD m.toNat = true ∧ ∀ k < m.toNat, v.getLsbD k = false := by
  unfold lowestSet
  rw [Option.map_eq_some_iff]
  constructor
  · rintro ⟨k, hk, rfl⟩
    rw [List.find?_range_eq_some] at hk
    obtain ⟨h1, h2, h3⟩ := hk
    have : (BitVec.ofNat 4 k).toNat = k := by simp at h2 ⊢; omega
    rw [this]; exact ⟨h1, fun j hj => by simpa using h3 j hj⟩
  · rintro ⟨h1, h2⟩
    refine ⟨m.toNat, ?_, by simp⟩
    rw [List.find?_range_eq_some]
    exact ⟨h1, by simp; exact m.isLt, fun j hj => by simpa using h2 j hj⟩

/-- The interrupts pending and enabled, one by one. -/
theorem getLsbD_candidates (ifr ier : Word) (k : Nat) (hk : k < 16) :
    (candidates ifr ier).getLsbD k = (decide (k = 1 ∨ 4 ≤ k) && (ifr.getLsbD k && ier.getLsbD k)) := by
  have : ∀ k : Fin 16, interruptMask.getLsbD k = decide (k.val = 1 ∨ 4 ≤ k.val) := by decide
  unfold candidates
  rw [BitVec.getLsbD_and, this ⟨k, hk⟩, BitVec.getLsbD_setWidth, BitVec.getLsbD_and]
  simp [hk]; rw [Bool.and_comm]

/-! ## Fetching -/

/-- Fetching depends on memory, the launch record and the byte order alone. -/
theorem fetchWord_congr {s t : State} (h1 : t.launch = s.launch) (h2 : t.prog = s.prog) (h3 : t.mem = s.mem)
    (h4 : t.csr = s.csr) (a : Word) : t.fetchWord a = s.fetchWord a := by
  unfold State.fetchWord State.fetchByte State.fetchRegion State.littleEndian
  rw [h1, h2, h3, h4]

theorem fetchChain_congr {s t : State} (h : ∀ a, t.fetchWord a = s.fetchWord a) (k : Nat) (a : Word) :
    t.fetchChain k a = s.fetchChain k a := by
  induction k generalizing a with
  | zero => rfl
  | succ k ih => unfold State.fetchChain; rw [h]; simp only [ih]

/-- The environment's entry does not change the packet fetched. -/
theorem fetchPacket_takeEnv (s : State) : s.takeEnv.fetchPacket = s.fetchPacket := by
  unfold State.fetchPacket
  rw [show s.takeEnv.pc = s.pc from rfl,
    fetchChain_congr (fetchWord_congr (s := s) (t := s.takeEnv) rfl rfl rfl rfl)]

end Sys2Proof.Machine
end

