-- ==== Sys2Proof/Laws/PerInstr.lean ====
section
/-! SUPPORT. The family of laws stated for each instruction: the word that stands for it has a p-bit of 0, so that its
execute packet ends with it (30_encoding.md R206). -/

namespace Sys2Proof.Laws

/-- The word of the instruction has a p-bit of 0. -/
def EncodedSerial.Statement (i : Instr) : Prop :=
  (encode i).getLsbD 0 = false

/-- The lowest bit of a word is that of its last piece. -/
theorem lowest_append {n m : Nat} (x : BitVec n) (y : BitVec m) (h : 0 < m) : (x ++ y).getLsbD 0 = y.getLsbD 0 := by
  rw [BitVec.getLsbD_append, if_pos h]

/-- The p-bit after a side bit is 0. -/
theorem lowest_side {n : Nat} (x : BitVec n) (s : Side) : (x ++ sideBits s).getLsbD 0 = false := by
  rw [lowest_append _ _ (by decide)]
  cases s <;> rfl

/-- The p-bit of NOP and IDLE is 0. -/
theorem lowest_nop (src : BitVec 4) : (encodeNop src).getLsbD 0 = false :=
  lowest_append (0#15 ++ src) (0#13) (by decide)

theorem EncodedSerial.addL (o : Ops3) : EncodedSerial.Statement (.addL o) := lowest_side _ o.side

theorem EncodedSerial.addLToLong (o : Ops3) : EncodedSerial.Statement (.addLToLong o) := lowest_side _ o.side

theorem EncodedSerial.addLLong (o : Ops3) : EncodedSerial.Statement (.addLLong o) := lowest_side _ o.side

theorem EncodedSerial.addLCst (o : Ops3) : EncodedSerial.Statement (.addLCst o) := lowest_side _ o.side

theorem EncodedSerial.addLCstLong (o : Ops3) : EncodedSerial.Statement (.addLCstLong o) := lowest_side _ o.side

theorem EncodedSerial.addu (o : Ops3) : EncodedSerial.Statement (.addu o) := lowest_side _ o.side

theorem EncodedSerial.adduLong (o : Ops3) : EncodedSerial.Statement (.adduLong o) := lowest_side _ o.side

theorem EncodedSerial.subL (o : Ops3) : EncodedSerial.Statement (.subL o) := lowest_side _ o.side

theorem EncodedSerial.subLX (o : Ops3) : EncodedSerial.Statement (.subLX o) := lowest_side _ o.side

theorem EncodedSerial.subLToLong (o : Ops3) : EncodedSerial.Statement (.subLToLong o) := lowest_side _ o.side

theorem EncodedSerial.subLXToLong (o : Ops3) : EncodedSerial.Statement (.subLXToLong o) := lowest_side _ o.side

theorem EncodedSerial.subLCst (o : Ops3) : EncodedSerial.Statement (.subLCst o) := lowest_side _ o.side

theorem EncodedSerial.subLCstLong (o : Ops3) : EncodedSerial.Statement (.subLCstLong o) := lowest_side _ o.side

theorem EncodedSerial.subu (o : Ops3) : EncodedSerial.Statement (.subu o) := lowest_side _ o.side

theorem EncodedSerial.subuX (o : Ops3) : EncodedSerial.Statement (.subuX o) := lowest_side _ o.side

theorem EncodedSerial.subc (o : Ops3) : EncodedSerial.Statement (.subc o) := lowest_side _ o.side

theorem EncodedSerial.sadd (o : Ops3) : EncodedSerial.Statement (.sadd o) := lowest_side _ o.side

theorem EncodedSerial.saddLong (o : Ops3) : EncodedSerial.Statement (.saddLong o) := lowest_side _ o.side

theorem EncodedSerial.saddCst (o : Ops3) : EncodedSerial.Statement (.saddCst o) := lowest_side _ o.side

theorem EncodedSerial.saddCstLong (o : Ops3) : EncodedSerial.Statement (.saddCstLong o) := lowest_side _ o.side

theorem EncodedSerial.ssub (o : Ops3) : EncodedSerial.Statement (.ssub o) := lowest_side _ o.side

theorem EncodedSerial.ssubX (o : Ops3) : EncodedSerial.Statement (.ssubX o) := lowest_side _ o.side

theorem EncodedSerial.ssubCst (o : Ops3) : EncodedSerial.Statement (.ssubCst o) := lowest_side _ o.side

theorem EncodedSerial.ssubCstLong (o : Ops3) : EncodedSerial.Statement (.ssubCstLong o) := lowest_side _ o.side

theorem EncodedSerial.sat (o : Ops3) : EncodedSerial.Statement (.sat o) := lowest_side _ o.side

theorem EncodedSerial.abs (o : Ops3) : EncodedSerial.Statement (.abs o) := lowest_side _ o.side

theorem EncodedSerial.absLong (o : Ops3) : EncodedSerial.Statement (.absLong o) := lowest_side _ o.side

theorem EncodedSerial.andL (o : Ops3) : EncodedSerial.Statement (.andL o) := lowest_side _ o.side

theorem EncodedSerial.andLCst (o : Ops3) : EncodedSerial.Statement (.andLCst o) := lowest_side _ o.side

theorem EncodedSerial.orL (o : Ops3) : EncodedSerial.Statement (.orL o) := lowest_side _ o.side

theorem EncodedSerial.orLCst (o : Ops3) : EncodedSerial.Statement (.orLCst o) := lowest_side _ o.side

theorem EncodedSerial.xorL (o : Ops3) : EncodedSerial.Statement (.xorL o) := lowest_side _ o.side

theorem EncodedSerial.xorLCst (o : Ops3) : EncodedSerial.Statement (.xorLCst o) := lowest_side _ o.side

theorem EncodedSerial.cmpeq (o : Ops3) : EncodedSerial.Statement (.cmpeq o) := lowest_side _ o.side

theorem EncodedSerial.cmpeqCst (o : Ops3) : EncodedSerial.Statement (.cmpeqCst o) := lowest_side _ o.side

theorem EncodedSerial.cmpeqLong (o : Ops3) : EncodedSerial.Statement (.cmpeqLong o) := lowest_side _ o.side

theorem EncodedSerial.cmpeqCstLong (o : Ops3) : EncodedSerial.Statement (.cmpeqCstLong o) := lowest_side _ o.side

theorem EncodedSerial.cmpgt (o : Ops3) : EncodedSerial.Statement (.cmpgt o) := lowest_side _ o.side

theorem EncodedSerial.cmpgtCst (o : Ops3) : EncodedSerial.Statement (.cmpgtCst o) := lowest_side _ o.side

theorem EncodedSerial.cmpgtLong (o : Ops3) : EncodedSerial.Statement (.cmpgtLong o) := lowest_side _ o.side

theorem EncodedSerial.cmpgtCstLong (o : Ops3) : EncodedSerial.Statement (.cmpgtCstLong o) := lowest_side _ o.side

theorem EncodedSerial.cmpgtu (o : Ops3) : EncodedSerial.Statement (.cmpgtu o) := lowest_side _ o.side

theorem EncodedSerial.cmpgtuCst (o : Ops3) : EncodedSerial.Statement (.cmpgtuCst o) := lowest_side _ o.side

theorem EncodedSerial.cmpgtuLong (o : Ops3) : EncodedSerial.Statement (.cmpgtuLong o) := lowest_side _ o.side

theorem EncodedSerial.cmpgtuCstLong (o : Ops3) : EncodedSerial.Statement (.cmpgtuCstLong o) := lowest_side _ o.side

theorem EncodedSerial.cmplt (o : Ops3) : EncodedSerial.Statement (.cmplt o) := lowest_side _ o.side

theorem EncodedSerial.cmpltCst (o : Ops3) : EncodedSerial.Statement (.cmpltCst o) := lowest_side _ o.side

theorem EncodedSerial.cmpltLong (o : Ops3) : EncodedSerial.Statement (.cmpltLong o) := lowest_side _ o.side

theorem EncodedSerial.cmpltCstLong (o : Ops3) : EncodedSerial.Statement (.cmpltCstLong o) := lowest_side _ o.side

theorem EncodedSerial.cmpltu (o : Ops3) : EncodedSerial.Statement (.cmpltu o) := lowest_side _ o.side

theorem EncodedSerial.cmpltuCst (o : Ops3) : EncodedSerial.Statement (.cmpltuCst o) := lowest_side _ o.side

theorem EncodedSerial.cmpltuLong (o : Ops3) : EncodedSerial.Statement (.cmpltuLong o) := lowest_side _ o.side

theorem EncodedSerial.cmpltuCstLong (o : Ops3) : EncodedSerial.Statement (.cmpltuCstLong o) := lowest_side _ o.side

theorem EncodedSerial.lmbd (o : Ops3) : EncodedSerial.Statement (.lmbd o) := lowest_side _ o.side

theorem EncodedSerial.lmbdCst (o : Ops3) : EncodedSerial.Statement (.lmbdCst o) := lowest_side _ o.side

theorem EncodedSerial.norm (o : Ops3) : EncodedSerial.Statement (.norm o) := lowest_side _ o.side

theorem EncodedSerial.normLong (o : Ops3) : EncodedSerial.Statement (.normLong o) := lowest_side _ o.side

theorem EncodedSerial.mpy (o : Ops3) : EncodedSerial.Statement (.mpy o) := lowest_side _ o.side

theorem EncodedSerial.mpyCst (o : Ops3) : EncodedSerial.Statement (.mpyCst o) := lowest_side _ o.side

theorem EncodedSerial.mpyu (o : Ops3) : EncodedSerial.Statement (.mpyu o) := lowest_side _ o.side

theorem EncodedSerial.mpyus (o : Ops3) : EncodedSerial.Statement (.mpyus o) := lowest_side _ o.side

theorem EncodedSerial.mpysu (o : Ops3) : EncodedSerial.Statement (.mpysu o) := lowest_side _ o.side

theorem EncodedSerial.mpysuCst (o : Ops3) : EncodedSerial.Statement (.mpysuCst o) := lowest_side _ o.side

theorem EncodedSerial.mpyh (o : Ops3) : EncodedSerial.Statement (.mpyh o) := lowest_side _ o.side

theorem EncodedSerial.mpyhu (o : Ops3) : EncodedSerial.Statement (.mpyhu o) := lowest_side _ o.side

theorem EncodedSerial.mpyhus (o : Ops3) : EncodedSerial.Statement (.mpyhus o) := lowest_side _ o.side

theorem EncodedSerial.mpyhsu (o : Ops3) : EncodedSerial.Statement (.mpyhsu o) := lowest_side _ o.side

theorem EncodedSerial.mpyhl (o : Ops3) : EncodedSerial.Statement (.mpyhl o) := lowest_side _ o.side

theorem EncodedSerial.mpyhlu (o : Ops3) : EncodedSerial.Statement (.mpyhlu o) := lowest_side _ o.side

theorem EncodedSerial.mpyhuls (o : Ops3) : EncodedSerial.Statement (.mpyhuls o) := lowest_side _ o.side

theorem EncodedSerial.mpyhslu (o : Ops3) : EncodedSerial.Statement (.mpyhslu o) := lowest_side _ o.side

theorem EncodedSerial.mpylh (o : Ops3) : EncodedSerial.Statement (.mpylh o) := lowest_side _ o.side

theorem EncodedSerial.mpylhu (o : Ops3) : EncodedSerial.Statement (.mpylhu o) := lowest_side _ o.side

theorem EncodedSerial.mpyluhs (o : Ops3) : EncodedSerial.Statement (.mpyluhs o) := lowest_side _ o.side

theorem EncodedSerial.mpylshu (o : Ops3) : EncodedSerial.Statement (.mpylshu o) := lowest_side _ o.side

theorem EncodedSerial.smpy (o : Ops3) : EncodedSerial.Statement (.smpy o) := lowest_side _ o.side

theorem EncodedSerial.smpyh (o : Ops3) : EncodedSerial.Statement (.smpyh o) := lowest_side _ o.side

theorem EncodedSerial.smpyhl (o : Ops3) : EncodedSerial.Statement (.smpyhl o) := lowest_side _ o.side

theorem EncodedSerial.smpylh (o : Ops3) : EncodedSerial.Statement (.smpylh o) := lowest_side _ o.side

theorem EncodedSerial.addS (o : Ops3) : EncodedSerial.Statement (.addS o) := lowest_side _ o.side

theorem EncodedSerial.addSCst (o : Ops3) : EncodedSerial.Statement (.addSCst o) := lowest_side _ o.side

theorem EncodedSerial.subS (o : Ops3) : EncodedSerial.Statement (.subS o) := lowest_side _ o.side

theorem EncodedSerial.subSCst (o : Ops3) : EncodedSerial.Statement (.subSCst o) := lowest_side _ o.side

theorem EncodedSerial.add2 (o : Ops3) : EncodedSerial.Statement (.add2 o) := lowest_side _ o.side

theorem EncodedSerial.sub2 (o : Ops3) : EncodedSerial.Statement (.sub2 o) := lowest_side _ o.side

theorem EncodedSerial.andS (o : Ops3) : EncodedSerial.Statement (.andS o) := lowest_side _ o.side

theorem EncodedSerial.andSCst (o : Ops3) : EncodedSerial.Statement (.andSCst o) := lowest_side _ o.side

theorem EncodedSerial.orS (o : Ops3) : EncodedSerial.Statement (.orS o) := lowest_side _ o.side

theorem EncodedSerial.orSCst (o : Ops3) : EncodedSerial.Statement (.orSCst o) := lowest_side _ o.side

theorem EncodedSerial.xorS (o : Ops3) : EncodedSerial.Statement (.xorS o) := lowest_side _ o.side

theorem EncodedSerial.xorSCst (o : Ops3) : EncodedSerial.Statement (.xorSCst o) := lowest_side _ o.side

theorem EncodedSerial.shl (o : Ops3) : EncodedSerial.Statement (.shl o) := lowest_side _ o.side

theorem EncodedSerial.shlLong (o : Ops3) : EncodedSerial.Statement (.shlLong o) := lowest_side _ o.side

theorem EncodedSerial.shlToLong (o : Ops3) : EncodedSerial.Statement (.shlToLong o) := lowest_side _ o.side

theorem EncodedSerial.shlCst (o : Ops3) : EncodedSerial.Statement (.shlCst o) := lowest_side _ o.side

theorem EncodedSerial.shlCstLong (o : Ops3) : EncodedSerial.Statement (.shlCstLong o) := lowest_side _ o.side

theorem EncodedSerial.shlCstToLong (o : Ops3) : EncodedSerial.Statement (.shlCstToLong o) := lowest_side _ o.side

theorem EncodedSerial.shr (o : Ops3) : EncodedSerial.Statement (.shr o) := lowest_side _ o.side

theorem EncodedSerial.shrLong (o : Ops3) : EncodedSerial.Statement (.shrLong o) := lowest_side _ o.side

theorem EncodedSerial.shrCst (o : Ops3) : EncodedSerial.Statement (.shrCst o) := lowest_side _ o.side

theorem EncodedSerial.shrCstLong (o : Ops3) : EncodedSerial.Statement (.shrCstLong o) := lowest_side _ o.side

theorem EncodedSerial.shru (o : Ops3) : EncodedSerial.Statement (.shru o) := lowest_side _ o.side

theorem EncodedSerial.shruLong (o : Ops3) : EncodedSerial.Statement (.shruLong o) := lowest_side _ o.side

theorem EncodedSerial.shruCst (o : Ops3) : EncodedSerial.Statement (.shruCst o) := lowest_side _ o.side

theorem EncodedSerial.shruCstLong (o : Ops3) : EncodedSerial.Statement (.shruCstLong o) := lowest_side _ o.side

theorem EncodedSerial.sshl (o : Ops3) : EncodedSerial.Statement (.sshl o) := lowest_side _ o.side

theorem EncodedSerial.sshlCst (o : Ops3) : EncodedSerial.Statement (.sshlCst o) := lowest_side _ o.side

theorem EncodedSerial.setReg (o : Ops3) : EncodedSerial.Statement (.setReg o) := lowest_side _ o.side

theorem EncodedSerial.clrReg (o : Ops3) : EncodedSerial.Statement (.clrReg o) := lowest_side _ o.side

theorem EncodedSerial.extReg (o : Ops3) : EncodedSerial.Statement (.extReg o) := lowest_side _ o.side

theorem EncodedSerial.extuReg (o : Ops3) : EncodedSerial.Statement (.extuReg o) := lowest_side _ o.side

theorem EncodedSerial.mvcRead (o : Ops3) : EncodedSerial.Statement (.mvcRead o) := lowest_side _ o.side

theorem EncodedSerial.mvcWrite (o : Ops3) : EncodedSerial.Statement (.mvcWrite o) := lowest_side _ o.side

theorem EncodedSerial.bReg (o : Ops3) : EncodedSerial.Statement (.bReg o) := lowest_side _ o.side

theorem EncodedSerial.bIrp (o : OpsRet) : EncodedSerial.Statement (.bIrp o) := lowest_side _ o.side

theorem EncodedSerial.bNrp (o : OpsRet) : EncodedSerial.Statement (.bNrp o) := lowest_side _ o.side

theorem EncodedSerial.addD (o : OpsD) : EncodedSerial.Statement (.addD o) := lowest_side _ o.side

theorem EncodedSerial.addDCst (o : OpsD) : EncodedSerial.Statement (.addDCst o) := lowest_side _ o.side

theorem EncodedSerial.subD (o : OpsD) : EncodedSerial.Statement (.subD o) := lowest_side _ o.side

theorem EncodedSerial.subDCst (o : OpsD) : EncodedSerial.Statement (.subDCst o) := lowest_side _ o.side

theorem EncodedSerial.addab (o : OpsD) : EncodedSerial.Statement (.addab o) := lowest_side _ o.side

theorem EncodedSerial.addabCst (o : OpsD) : EncodedSerial.Statement (.addabCst o) := lowest_side _ o.side

theorem EncodedSerial.addah (o : OpsD) : EncodedSerial.Statement (.addah o) := lowest_side _ o.side

theorem EncodedSerial.addahCst (o : OpsD) : EncodedSerial.Statement (.addahCst o) := lowest_side _ o.side

theorem EncodedSerial.addaw (o : OpsD) : EncodedSerial.Statement (.addaw o) := lowest_side _ o.side

theorem EncodedSerial.addawCst (o : OpsD) : EncodedSerial.Statement (.addawCst o) := lowest_side _ o.side

theorem EncodedSerial.subab (o : OpsD) : EncodedSerial.Statement (.subab o) := lowest_side _ o.side

theorem EncodedSerial.subabCst (o : OpsD) : EncodedSerial.Statement (.subabCst o) := lowest_side _ o.side

theorem EncodedSerial.subah (o : OpsD) : EncodedSerial.Statement (.subah o) := lowest_side _ o.side

theorem EncodedSerial.subahCst (o : OpsD) : EncodedSerial.Statement (.subahCst o) := lowest_side _ o.side

theorem EncodedSerial.subaw (o : OpsD) : EncodedSerial.Statement (.subaw o) := lowest_side _ o.side

theorem EncodedSerial.subawCst (o : OpsD) : EncodedSerial.Statement (.subawCst o) := lowest_side _ o.side

theorem EncodedSerial.addk (o : OpsK) : EncodedSerial.Statement (.addk o) := lowest_side _ o.side

theorem EncodedSerial.mvk (o : OpsK) : EncodedSerial.Statement (.mvk o) := lowest_side _ o.side

theorem EncodedSerial.mvkh (o : OpsK) : EncodedSerial.Statement (.mvkh o) := lowest_side _ o.side

theorem EncodedSerial.extu (o : OpsField) : EncodedSerial.Statement (.extu o) := lowest_side _ o.side

theorem EncodedSerial.ext (o : OpsField) : EncodedSerial.Statement (.ext o) := lowest_side _ o.side

theorem EncodedSerial.set (o : OpsField) : EncodedSerial.Statement (.set o) := lowest_side _ o.side

theorem EncodedSerial.clr (o : OpsField) : EncodedSerial.Statement (.clr o) := lowest_side _ o.side

theorem EncodedSerial.bDisp (o : OpsBr) : EncodedSerial.Statement (.bDisp o) := lowest_side _ o.side

theorem EncodedSerial.ldhu (o : OpsMem) : EncodedSerial.Statement (.ldhu o) := lowest_side _ o.side

theorem EncodedSerial.ldbu (o : OpsMem) : EncodedSerial.Statement (.ldbu o) := lowest_side _ o.side

theorem EncodedSerial.ldb (o : OpsMem) : EncodedSerial.Statement (.ldb o) := lowest_side _ o.side

theorem EncodedSerial.stb (o : OpsMem) : EncodedSerial.Statement (.stb o) := lowest_side _ o.side

theorem EncodedSerial.ldh (o : OpsMem) : EncodedSerial.Statement (.ldh o) := lowest_side _ o.side

theorem EncodedSerial.sth (o : OpsMem) : EncodedSerial.Statement (.sth o) := lowest_side _ o.side

theorem EncodedSerial.ldw (o : OpsMem) : EncodedSerial.Statement (.ldw o) := lowest_side _ o.side

theorem EncodedSerial.stw (o : OpsMem) : EncodedSerial.Statement (.stw o) := lowest_side _ o.side

theorem EncodedSerial.ldhu15 (o : OpsMem15) : EncodedSerial.Statement (.ldhu15 o) := lowest_side _ o.side

theorem EncodedSerial.ldbu15 (o : OpsMem15) : EncodedSerial.Statement (.ldbu15 o) := lowest_side _ o.side

theorem EncodedSerial.ldb15 (o : OpsMem15) : EncodedSerial.Statement (.ldb15 o) := lowest_side _ o.side

theorem EncodedSerial.stb15 (o : OpsMem15) : EncodedSerial.Statement (.stb15 o) := lowest_side _ o.side

theorem EncodedSerial.ldh15 (o : OpsMem15) : EncodedSerial.Statement (.ldh15 o) := lowest_side _ o.side

theorem EncodedSerial.sth15 (o : OpsMem15) : EncodedSerial.Statement (.sth15 o) := lowest_side _ o.side

theorem EncodedSerial.ldw15 (o : OpsMem15) : EncodedSerial.Statement (.ldw15 o) := lowest_side _ o.side

theorem EncodedSerial.stw15 (o : OpsMem15) : EncodedSerial.Statement (.stw15 o) := lowest_side _ o.side

theorem EncodedSerial.nop (src : BitVec 3) : EncodedSerial.Statement (.nop src) := lowest_nop _

theorem EncodedSerial.nop9 : EncodedSerial.Statement .nop9 := lowest_nop _

theorem EncodedSerial.idle : EncodedSerial.Statement .idle := lowest_nop _

theorem EncodedSerial.mvL (o : Ops2) : EncodedSerial.Statement (.mvL o) := lowest_side _ o.side

theorem EncodedSerial.mvLLong (o : Ops2) : EncodedSerial.Statement (.mvLLong o) := lowest_side _ o.side

theorem EncodedSerial.mvS (o : Ops2) : EncodedSerial.Statement (.mvS o) := lowest_side _ o.side

theorem EncodedSerial.mvD (o : OpsD2) : EncodedSerial.Statement (.mvD o) := lowest_side _ o.side

theorem EncodedSerial.negL (o : Ops2) : EncodedSerial.Statement (.negL o) := lowest_side _ o.side

theorem EncodedSerial.negLLong (o : Ops2) : EncodedSerial.Statement (.negLLong o) := lowest_side _ o.side

theorem EncodedSerial.negS (o : Ops2) : EncodedSerial.Statement (.negS o) := lowest_side _ o.side

theorem EncodedSerial.notL (o : Ops2) : EncodedSerial.Statement (.notL o) := lowest_side _ o.side

theorem EncodedSerial.notS (o : Ops2) : EncodedSerial.Statement (.notS o) := lowest_side _ o.side

theorem EncodedSerial.zeroL (o : OpsZ) : EncodedSerial.Statement (.zeroL o) := lowest_side _ o.side

theorem EncodedSerial.zeroLLong (o : OpsZ) : EncodedSerial.Statement (.zeroLLong o) := lowest_side _ o.side

theorem EncodedSerial.zeroS (o : OpsZ) : EncodedSerial.Statement (.zeroS o) := lowest_side _ o.side

theorem EncodedSerial.zeroD (o : OpsZ) : EncodedSerial.Statement (.zeroD o) := lowest_side _ o.side

theorem EncodedSerial.mvkl (o : OpsK) : EncodedSerial.Statement (.mvkl o) := lowest_side _ o.side

theorem EncodedSerial.mvklh (o : OpsK) : EncodedSerial.Statement (.mvklh o) := lowest_side _ o.side

end Sys2Proof.Laws
end

