-- ==== Sys2Proof/Tests/Slice0.lean ====
section
/-! SUPPORT. The author's own tests.  Expected results come from spec/: words from the encoding tables, single steps from
95_test_vectors.md and 96_test_vectors_derived.md; and for each statement with hypotheses a state that meets them. -/

namespace Sys2Proof.Tests

open Sys2Proof.Machine

/-! ## Helpers -/

/-- The instruction of a word, without the reason of a refusal. -/
def decoded (w : Word) : Option Instr := (decode w).toOption

/-- The reason a word is refused. -/
def refusal (w : Word) : Option DecodeError :=
  match decode w with
  | .ok _ => none
  | .error e => some e

/-- The next state, if there is one. -/
def after : Out → Option State
  | .next t => some t
  | .fault _ => none
  | .refused _ => none

/-- The fault, if there is one. -/
def faultOf : Out → Option Fault
  | .next _ => none
  | .fault f => some f
  | .refused _ => none

/-- The refusal, if there is one. -/
def refusedOf : Out → Option Refusal
  | .next _ => none
  | .fault _ => none
  | .refused r => some r

/-- A register and its value. -/
abbrev RegIs := Side × BitVec 4 × Word

/-- A state with registers set. -/
def withRegs (s : State) (rs : List RegIs) : State :=
  rs.foldl (fun s r => s.writeReg { side := r.1, reg := r.2.1, value := r.2.2 }) s

/-- A state with bytes of data memory set. -/
def withBytes (s : State) (cells : List Host.Cell) : State :=
  { s with mem := s.mem.writeAll cells }

/-- The reset state with words at address 0 on, registers set. -/
def start (words : List Word) (rs : List RegIs) : State :=
  withRegs (withBytes State.reset (words.zipIdx.flatMap (fun p => State.reset.wordCells (4 * p.2) p.1))) rs

/-- One step of one instruction: what is there before and what is expected after. -/
structure Case where
  word : Word
  regs : List RegIs := []
  amr : Word := 0
  bytes : List Host.Cell := []
  after : List RegIs := []
  late : List RegIs := []
  delay : Nat := 0
  stored : List Host.Cell := []
  sat : List Nat := []

/-- The word is at 4000h, out of the way of the data. -/
def Case.state (c : Case) : State :=
  { withRegs (withBytes State.reset (State.reset.wordCells 0x4000 c.word ++ c.bytes)) c.regs with
    pc := 0x4000, amr := c.amr }

/-- After one step the registers, the results in flight and memory are as expected, and the program pointer has moved. -/
def Case.passes (c : Case) : Bool :=
  match step c.state with
  | .next t =>
    c.after.all (fun r => (t.file r.1).read r.2.1 == r.2.2)
      && decide (t.pendingRegs
        = c.late.map (fun r => { write := { side := r.1, reg := r.2.1, value := r.2.2 }, left := c.delay }))
      && c.stored.all (fun b => t.mem.read b.1 == some b.2)
      && t.pendingSat == c.sat && t.pc == 0x4004
  | .fault _ => false
  | .refused _ => false

/-! ## WellFormed: a term each check refuses, and one at the edge that passes -/

/-- An operand record of .L1 with all fields given. -/
def ops (dst src2 src1 : BitVec 5) : Ops3 :=
  { cond := .always, side := .a, x := false, dst := dst, src2 := src2, src1 := src1 }

/-- The same on side B. -/
def opsB (dst src2 src1 : BitVec 5) : Ops3 := { ops dst src2 src1 with side := .b }

theorem test_wellformed_badRegister :
    [Instr.addL (ops 16 0 0), .addL (ops 0 16 0), .addL (ops 0 0 16), .addDCst
      { cond := .always, side := .a, dst := 0, src2 := 31, src1 := 31 }].map Instr.fieldError
      = List.replicate 4 (some .badRegister) := by decide

theorem test_wellformed_oddPair :
    [Instr.addLToLong (ops 5 0 0), .addLLong (ops 4 3 0), .zeroLLong { cond := .always, side := .a, dst := 15 }].map
      Instr.fieldError = List.replicate 3 (some .oddPair) := by decide

theorem test_wellformed_notOnS2 :
    [Instr.mvcRead (ops 0 0 0), .mvcWrite (ops 0 0 0), .bReg (ops 0 0 0),
      .bIrp { cond := .always, side := .a, x := false, dst := 0, src1 := 0 },
      .bNrp { cond := .always, side := .a, x := false, dst := 0, src1 := 0 }].map Instr.fieldError
      = List.replicate 5 (some .notOnS2) := by decide

theorem test_wellformed_edges :
    [Instr.addL (ops 15 15 15), .addLCst (ops 15 15 31), .addLToLong (ops 14 15 15), .mvcRead (opsB 15 31 31),
      .mvcWrite (opsB 31 15 31), .bIrp { cond := .always, side := .b, x := true, dst := 31, src1 := 31 }].map
      Instr.fieldError = List.replicate 6 none := by decide

/-! ## Decode: the refusals, by name -/

/-- V400 to V409 of 96_test_vectors_derived.md, and the patterns of no format (30_encoding.md R248 (a)). -/
theorem test_refused_words :
    [0xC1882078, 0x11882078, 0x01882018, 0x01882000, 0x00012000, 0x00900464, 0x00900364, 0x02882478, 0x08082078,
      0x000403A0, 0x00000030, 0x00000070].map refusal
      = [some .reservedCondition, some .reservedCondition, some .unlistedOp, some .badNop, some .badNop,
        some .unlistedMode, some .rBitSet, some .oddPair, some .badRegister, some .notOnS2, some .noFormat,
        some .noFormat] := by decide

/-! ## Decode: a word for every instruction, written out from its encoding -/

/-- .L format, bits: creg z, dst, src2, src1, x, op, 110, s, p (R235, R250). -/
theorem test_decode_L_1 :
    [0b0000_00011_00001_00110_0_0000011_110_0_0,
     0b0010_01010_00110_00001_0_0100011_110_1_0,
     0b0011_00000_01010_01100_1_0100001_110_0_0,
     0b0100_01000_00000_00111_1_0000010_110_1_0,
     0b0101_01110_00100_10010_0_0100000_110_0_0,
     0b0110_00110_01010_01101_0_0101011_110_1_0,
     0b0111_01100_01110_01000_1_0101001_110_0_0,
     0b1000_00100_00100_00011_1_0000111_110_1_0,
     0b1001_01011_01001_01110_0_0010111_110_0_0,
     0b1010_00010_01110_01001_0_0100111_110_1_0].map decoded = 
    [some (.addL { cond := .always, side := .a, x := false, dst := 3, src2 := 1, src1 := 6 }),
     some (.addLToLong { cond := .nonzero .b0, side := .b, x := false, dst := 10, src2 := 6, src1 := 1 }),
     some (.addLLong { cond := .zero .b0, side := .a, x := true, dst := 0, src2 := 10, src1 := 12 }),
     some (.addLCst { cond := .nonzero .b1, side := .b, x := true, dst := 8, src2 := 0, src1 := 7 }),
     some (.addLCstLong { cond := .zero .b1, side := .a, x := false, dst := 14, src2 := 4, src1 := 18 }),
     some (.addu { cond := .nonzero .b2, side := .b, x := false, dst := 6, src2 := 10, src1 := 13 }),
     some (.adduLong { cond := .zero .b2, side := .a, x := true, dst := 12, src2 := 14, src1 := 8 }),
     some (.subL { cond := .nonzero .a1, side := .b, x := true, dst := 4, src2 := 4, src1 := 3 }),
     some (.subLX { cond := .zero .a1, side := .a, x := false, dst := 11, src2 := 9, src1 := 14 }),
     some (.subLToLong { cond := .nonzero .a2, side := .b, x := false, dst := 2, src2 := 14, src1 := 9 })] := by
  decide

/-- Continued: .L format. -/
theorem test_decode_L_2 :
    [0b1011_01000_00011_00100_1_0110111_110_0_0,
     0b0000_00000_01000_11111_1_0000110_110_1_0,
     0b0010_00110_01100_01010_0_0100100_110_0_0,
     0b0011_01110_00010_00101_0_0101111_110_1_0,
     0b0100_00100_00111_00000_1_0111111_110_0_0,
     0b0101_01100_01100_01011_1_1001011_110_1_0,
     0b0110_00011_00001_00110_0_0010011_110_0_0,
     0b0111_01010_00110_00001_0_0110001_110_1_0,
     0b1000_00001_01011_01100_1_0010010_110_0_0,
     0b1001_01000_00000_10111_1_0110000_110_1_0].map decoded = 
    [some (.subLXToLong { cond := .zero .a2, side := .a, x := true, dst := 8, src2 := 3, src1 := 4 }),
     some (.subLCst { cond := .always, side := .b, x := true, dst := 0, src2 := 8, src1 := 31 }),
     some (.subLCstLong { cond := .nonzero .b0, side := .a, x := false, dst := 6, src2 := 12, src1 := 10 }),
     some (.subu { cond := .zero .b0, side := .b, x := false, dst := 14, src2 := 2, src1 := 5 }),
     some (.subuX { cond := .nonzero .b1, side := .a, x := true, dst := 4, src2 := 7, src1 := 0 }),
     some (.subc { cond := .zero .b1, side := .b, x := true, dst := 12, src2 := 12, src1 := 11 }),
     some (.sadd { cond := .nonzero .b2, side := .a, x := false, dst := 3, src2 := 1, src1 := 6 }),
     some (.saddLong { cond := .zero .b2, side := .b, x := false, dst := 10, src2 := 6, src1 := 1 }),
     some (.saddCst { cond := .nonzero .a1, side := .a, x := true, dst := 1, src2 := 11, src1 := 12 }),
     some (.saddCstLong { cond := .zero .a1, side := .b, x := true, dst := 8, src2 := 0, src1 := 23 })] := by
  decide

/-- Continued: .L format. -/
theorem test_decode_L_3 :
    [0b1010_01111_00101_00010_0_0001111_110_0_0,
     0b1011_00110_01010_01101_0_0011111_110_1_0,
     0b0000_01101_01111_11000_1_0001110_110_0_0,
     0b0010_00100_00100_00011_1_0101100_110_1_0,
     0b0011_01011_01000_01110_0_1000000_110_0_0,
     0b0100_00010_01110_11001_0_0011010_110_1_0,
     0b0101_01000_00010_00100_1_0111000_110_0_0,
     0b0110_00000_01000_01111_1_1111011_110_1_0,
     0b0111_00111_01101_11010_0_1111010_110_0_0,
     0b1000_01110_00010_00101_0_1111111_110_1_0].map decoded = 
    [some (.ssub { cond := .nonzero .a2, side := .a, x := false, dst := 15, src2 := 5, src1 := 2 }),
     some (.ssubX { cond := .zero .a2, side := .b, x := false, dst := 6, src2 := 10, src1 := 13 }),
     some (.ssubCst { cond := .always, side := .a, x := true, dst := 13, src2 := 15, src1 := 24 }),
     some (.ssubCstLong { cond := .nonzero .b0, side := .b, x := true, dst := 4, src2 := 4, src1 := 3 }),
     some (.sat { cond := .zero .b0, side := .a, x := false, dst := 11, src2 := 8, src1 := 14 }),
     some (.abs { cond := .nonzero .b1, side := .b, x := false, dst := 2, src2 := 14, src1 := 25 }),
     some (.absLong { cond := .zero .b1, side := .a, x := true, dst := 8, src2 := 2, src1 := 4 }),
     some (.andL { cond := .nonzero .b2, side := .b, x := true, dst := 0, src2 := 8, src1 := 15 }),
     some (.andLCst { cond := .zero .b2, side := .a, x := false, dst := 7, src2 := 13, src1 := 26 }),
     some (.orL { cond := .nonzero .a1, side := .b, x := false, dst := 14, src2 := 2, src1 := 5 })] := by
  decide

/-- Continued: .L format. -/
theorem test_decode_L_4 :
    [0b1001_00101_00111_10000_1_1111110_110_0_0,
     0b1010_01100_01100_01011_1_1101111_110_1_0,
     0b1011_00011_00001_00110_0_1101110_110_0_0,
     0b0000_01010_00110_00001_0_1010011_110_1_0,
     0b0010_00001_01011_11100_1_1010010_110_0_0,
     0b0011_01000_00000_00111_1_1010001_110_1_0,
     0b0100_01111_00100_10010_0_1010000_110_0_0,
     0b0101_00110_01010_01101_0_1000111_110_1_0,
     0b0110_01101_01111_01000_1_1000110_110_0_0,
     0b0111_00100_00100_00011_1_1000101_110_1_0].map decoded = 
    [some (.orLCst { cond := .zero .a1, side := .a, x := true, dst := 5, src2 := 7, src1 := 16 }),
     some (.xorL { cond := .nonzero .a2, side := .b, x := true, dst := 12, src2 := 12, src1 := 11 }),
     some (.xorLCst { cond := .zero .a2, side := .a, x := false, dst := 3, src2 := 1, src1 := 6 }),
     some (.cmpeq { cond := .always, side := .b, x := false, dst := 10, src2 := 6, src1 := 1 }),
     some (.cmpeqCst { cond := .nonzero .b0, side := .a, x := true, dst := 1, src2 := 11, src1 := 28 }),
     some (.cmpeqLong { cond := .zero .b0, side := .b, x := true, dst := 8, src2 := 0, src1 := 7 }),
     some (.cmpeqCstLong { cond := .nonzero .b1, side := .a, x := false, dst := 15, src2 := 4, src1 := 18 }),
     some (.cmpgt { cond := .zero .b1, side := .b, x := false, dst := 6, src2 := 10, src1 := 13 }),
     some (.cmpgtCst { cond := .nonzero .b2, side := .a, x := true, dst := 13, src2 := 15, src1 := 8 }),
     some (.cmpgtLong { cond := .zero .b2, side := .b, x := true, dst := 4, src2 := 4, src1 := 3 })] := by
  decide

/-- Continued: .L format. -/
theorem test_decode_L_5 :
    [0b1000_01011_01000_11110_0_1000100_110_0_0,
     0b1001_00010_01110_01001_0_1001111_110_1_0,
     0b1010_01001_00011_10100_1_1001110_110_0_0,
     0b1011_00000_01000_01111_1_1001101_110_1_0,
     0b0000_00111_01100_01010_0_1001100_110_0_0,
     0b0010_01110_00010_00101_0_1010111_110_1_0,
     0b0011_00101_00111_00000_1_1010110_110_0_0,
     0b0100_01100_01100_01011_1_1010101_110_1_0,
     0b0101_00011_00000_10110_0_1010100_110_0_0,
     0b0110_01010_00110_00001_0_1011111_110_1_0].map decoded = 
    [some (.cmpgtCstLong { cond := .nonzero .a1, side := .a, x := false, dst := 11, src2 := 8, src1 := 30 }),
     some (.cmpgtu { cond := .zero .a1, side := .b, x := false, dst := 2, src2 := 14, src1 := 9 }),
     some (.cmpgtuCst { cond := .nonzero .a2, side := .a, x := true, dst := 9, src2 := 3, src1 := 20 }),
     some (.cmpgtuLong { cond := .zero .a2, side := .b, x := true, dst := 0, src2 := 8, src1 := 15 }),
     some (.cmpgtuCstLong { cond := .always, side := .a, x := false, dst := 7, src2 := 12, src1 := 10 }),
     some (.cmplt { cond := .nonzero .b0, side := .b, x := false, dst := 14, src2 := 2, src1 := 5 }),
     some (.cmpltCst { cond := .zero .b0, side := .a, x := true, dst := 5, src2 := 7, src1 := 0 }),
     some (.cmpltLong { cond := .nonzero .b1, side := .b, x := true, dst := 12, src2 := 12, src1 := 11 }),
     some (.cmpltCstLong { cond := .zero .b1, side := .a, x := false, dst := 3, src2 := 0, src1 := 22 }),
     some (.cmpltu { cond := .nonzero .b2, side := .b, x := false, dst := 10, src2 := 6, src1 := 1 })] := by
  decide

/-- Continued: .L format. -/
theorem test_decode_L_6 :
    [0b0111_00001_01011_01100_1_1011110_110_0_0,
     0b1000_01000_00000_00111_1_1011101_110_1_0,
     0b1001_01111_00100_00010_0_1011100_110_0_0,
     0b1010_00110_01010_01101_0_1101011_110_1_0,
     0b1011_01101_01111_11000_1_1101010_110_0_0,
     0b0000_00100_00100_00011_1_1100011_110_1_0,
     0b0010_01011_01000_01110_0_1100000_110_0_0].map decoded = 
    [some (.cmpltuCst { cond := .zero .b2, side := .a, x := true, dst := 1, src2 := 11, src1 := 12 }),
     some (.cmpltuLong { cond := .nonzero .a1, side := .b, x := true, dst := 8, src2 := 0, src1 := 7 }),
     some (.cmpltuCstLong { cond := .zero .a1, side := .a, x := false, dst := 15, src2 := 4, src1 := 2 }),
     some (.lmbd { cond := .nonzero .a2, side := .b, x := false, dst := 6, src2 := 10, src1 := 13 }),
     some (.lmbdCst { cond := .zero .a2, side := .a, x := true, dst := 13, src2 := 15, src1 := 24 }),
     some (.norm { cond := .always, side := .b, x := true, dst := 4, src2 := 4, src1 := 3 }),
     some (.normLong { cond := .nonzero .b0, side := .a, x := false, dst := 11, src2 := 8, src1 := 14 })] := by
  decide

/-- .M format (R236, R251). -/
theorem test_decode_M_1 :
    [0b0011_00010_01110_01001_0_11001_00000_1_0,
     0b0100_01001_00011_00100_1_11000_00000_0_0,
     0b0101_00000_01000_01111_1_11111_00000_1_0,
     0b0110_00111_01101_01010_0_11101_00000_0_0,
     0b0111_01110_00010_00101_0_11011_00000_1_0,
     0b1000_00101_00111_10000_1_11110_00000_0_0,
     0b1001_01100_01100_01011_1_00001_00000_1_0,
     0b1010_00011_00001_00110_0_00111_00000_0_0,
     0b1011_01010_00110_00001_0_00101_00000_1_0,
     0b0000_00001_01011_01100_1_00011_00000_0_0].map decoded = 
    [some (.mpy { cond := .zero .b0, side := .b, x := false, dst := 2, src2 := 14, src1 := 9 }),
     some (.mpyCst { cond := .nonzero .b1, side := .a, x := true, dst := 9, src2 := 3, src1 := 4 }),
     some (.mpyu { cond := .zero .b1, side := .b, x := true, dst := 0, src2 := 8, src1 := 15 }),
     some (.mpyus { cond := .nonzero .b2, side := .a, x := false, dst := 7, src2 := 13, src1 := 10 }),
     some (.mpysu { cond := .zero .b2, side := .b, x := false, dst := 14, src2 := 2, src1 := 5 }),
     some (.mpysuCst { cond := .nonzero .a1, side := .a, x := true, dst := 5, src2 := 7, src1 := 16 }),
     some (.mpyh { cond := .zero .a1, side := .b, x := true, dst := 12, src2 := 12, src1 := 11 }),
     some (.mpyhu { cond := .nonzero .a2, side := .a, x := false, dst := 3, src2 := 1, src1 := 6 }),
     some (.mpyhus { cond := .zero .a2, side := .b, x := false, dst := 10, src2 := 6, src1 := 1 }),
     some (.mpyhsu { cond := .always, side := .a, x := true, dst := 1, src2 := 11, src1 := 12 })] := by
  decide

/-- Continued: .M format. -/
theorem test_decode_M_2 :
    [0b0010_01000_00000_00111_1_01001_00000_1_0,
     0b0011_01111_00101_00010_0_01111_00000_0_0,
     0b0100_00110_01010_01101_0_01101_00000_1_0,
     0b0101_01101_01111_01000_1_01011_00000_0_0,
     0b0110_00100_00100_00011_1_10001_00000_1_0,
     0b0111_01011_01001_01110_0_10111_00000_0_0,
     0b1000_00010_01110_01001_0_10101_00000_1_0,
     0b1001_01001_00011_00100_1_10011_00000_0_0,
     0b1010_00000_01000_01111_1_11010_00000_1_0,
     0b1011_00111_01101_01010_0_00010_00000_0_0].map decoded = 
    [some (.mpyhl { cond := .nonzero .b0, side := .b, x := true, dst := 8, src2 := 0, src1 := 7 }),
     some (.mpyhlu { cond := .zero .b0, side := .a, x := false, dst := 15, src2 := 5, src1 := 2 }),
     some (.mpyhuls { cond := .nonzero .b1, side := .b, x := false, dst := 6, src2 := 10, src1 := 13 }),
     some (.mpyhslu { cond := .zero .b1, side := .a, x := true, dst := 13, src2 := 15, src1 := 8 }),
     some (.mpylh { cond := .nonzero .b2, side := .b, x := true, dst := 4, src2 := 4, src1 := 3 }),
     some (.mpylhu { cond := .zero .b2, side := .a, x := false, dst := 11, src2 := 9, src1 := 14 }),
     some (.mpyluhs { cond := .nonzero .a1, side := .b, x := false, dst := 2, src2 := 14, src1 := 9 }),
     some (.mpylshu { cond := .zero .a1, side := .a, x := true, dst := 9, src2 := 3, src1 := 4 }),
     some (.smpy { cond := .nonzero .a2, side := .b, x := true, dst := 0, src2 := 8, src1 := 15 }),
     some (.smpyh { cond := .zero .a2, side := .a, x := false, dst := 7, src2 := 13, src1 := 10 })] := by
  decide

/-- Continued: .M format. -/
theorem test_decode_M_3 :
    [0b0000_01110_00010_00101_0_01010_00000_1_0,
     0b0010_00101_00111_00000_1_10010_00000_0_0].map decoded = 
    [some (.smpyhl { cond := .always, side := .b, x := false, dst := 14, src2 := 2, src1 := 5 }),
     some (.smpylh { cond := .nonzero .b0, side := .a, x := true, dst := 5, src2 := 7, src1 := 0 })] := by
  decide

/-- .S format (R237, R252). -/
theorem test_decode_S_1 :
    [0b0011_01100_01100_01011_1_000111_1000_1_0,
     0b0100_00011_00001_10110_0_000110_1000_0_0,
     0b0101_01010_00110_00001_0_010111_1000_1_0,
     0b0110_00001_01011_01100_1_010110_1000_0_0,
     0b0111_01000_00000_00111_1_000001_1000_1_0,
     0b1000_01111_00101_00010_0_010001_1000_0_0,
     0b1001_00110_01010_01101_0_011111_1000_1_0,
     0b1010_01101_01111_11000_1_011110_1000_0_0,
     0b1011_00100_00100_00011_1_011011_1000_1_0,
     0b0000_01011_01001_01110_0_011010_1000_0_0].map decoded = 
    [some (.addS { cond := .zero .b0, side := .b, x := true, dst := 12, src2 := 12, src1 := 11 }),
     some (.addSCst { cond := .nonzero .b1, side := .a, x := false, dst := 3, src2 := 1, src1 := 22 }),
     some (.subS { cond := .zero .b1, side := .b, x := false, dst := 10, src2 := 6, src1 := 1 }),
     some (.subSCst { cond := .nonzero .b2, side := .a, x := true, dst := 1, src2 := 11, src1 := 12 }),
     some (.add2 { cond := .zero .b2, side := .b, x := true, dst := 8, src2 := 0, src1 := 7 }),
     some (.sub2 { cond := .nonzero .a1, side := .a, x := false, dst := 15, src2 := 5, src1 := 2 }),
     some (.andS { cond := .zero .a1, side := .b, x := false, dst := 6, src2 := 10, src1 := 13 }),
     some (.andSCst { cond := .nonzero .a2, side := .a, x := true, dst := 13, src2 := 15, src1 := 24 }),
     some (.orS { cond := .zero .a2, side := .b, x := true, dst := 4, src2 := 4, src1 := 3 }),
     some (.orSCst { cond := .always, side := .a, x := false, dst := 11, src2 := 9, src1 := 14 })] := by
  decide

/-- Continued: .S format. -/
theorem test_decode_S_2 :
    [0b0010_00010_01110_01001_0_001011_1000_1_0,
     0b0011_01001_00011_00100_1_001010_1000_0_0,
     0b0100_00000_01000_01111_1_110011_1000_1_0,
     0b0101_00110_01100_01010_0_110001_1000_0_0,
     0b0110_01110_00010_00101_0_010011_1000_1_0,
     0b0111_00101_00111_10000_1_110010_1000_0_0,
     0b1000_01100_01100_11011_1_110000_1000_1_0,
     0b1001_00010_00001_00110_0_010010_1000_0_0,
     0b1010_01010_00110_00001_0_110111_1000_1_0,
     0b1011_00000_01010_01100_1_110101_1000_0_0].map decoded = 
    [some (.xorS { cond := .nonzero .b0, side := .b, x := false, dst := 2, src2 := 14, src1 := 9 }),
     some (.xorSCst { cond := .zero .b0, side := .a, x := true, dst := 9, src2 := 3, src1 := 4 }),
     some (.shl { cond := .nonzero .b1, side := .b, x := true, dst := 0, src2 := 8, src1 := 15 }),
     some (.shlLong { cond := .zero .b1, side := .a, x := false, dst := 6, src2 := 12, src1 := 10 }),
     some (.shlToLong { cond := .nonzero .b2, side := .b, x := false, dst := 14, src2 := 2, src1 := 5 }),
     some (.shlCst { cond := .zero .b2, side := .a, x := true, dst := 5, src2 := 7, src1 := 16 }),
     some (.shlCstLong { cond := .nonzero .a1, side := .b, x := true, dst := 12, src2 := 12, src1 := 27 }),
     some (.shlCstToLong { cond := .zero .a1, side := .a, x := false, dst := 2, src2 := 1, src1 := 6 }),
     some (.shr { cond := .nonzero .a2, side := .b, x := false, dst := 10, src2 := 6, src1 := 1 }),
     some (.shrLong { cond := .zero .a2, side := .a, x := true, dst := 0, src2 := 10, src1 := 12 })] := by
  decide

/-- Continued: .S format. -/
theorem test_decode_S_3 :
    [0b0000_01000_00000_00111_1_110110_1000_1_0,
     0b0010_01110_00100_10010_0_110100_1000_0_0,
     0b0011_00110_01010_01101_0_100111_1000_1_0,
     0b0100_01100_01110_01000_1_100101_1000_0_0,
     0b0101_00100_00100_10011_1_100110_1000_1_0,
     0b0110_01010_01000_11110_0_100100_1000_0_0,
     0b0111_00010_01110_01001_0_100011_1000_1_0,
     0b1000_01001_00011_10100_1_100010_1000_0_0,
     0b1001_00000_01000_01111_1_111011_1000_1_0,
     0b1010_00111_01101_01010_0_111111_1000_0_0].map decoded = 
    [some (.shrCst { cond := .always, side := .b, x := true, dst := 8, src2 := 0, src1 := 7 }),
     some (.shrCstLong { cond := .nonzero .b0, side := .a, x := false, dst := 14, src2 := 4, src1 := 18 }),
     some (.shru { cond := .zero .b0, side := .b, x := false, dst := 6, src2 := 10, src1 := 13 }),
     some (.shruLong { cond := .nonzero .b1, side := .a, x := true, dst := 12, src2 := 14, src1 := 8 }),
     some (.shruCst { cond := .zero .b1, side := .b, x := true, dst := 4, src2 := 4, src1 := 19 }),
     some (.shruCstLong { cond := .nonzero .b2, side := .a, x := false, dst := 10, src2 := 8, src1 := 30 }),
     some (.sshl { cond := .zero .b2, side := .b, x := false, dst := 2, src2 := 14, src1 := 9 }),
     some (.sshlCst { cond := .nonzero .a1, side := .a, x := true, dst := 9, src2 := 3, src1 := 20 }),
     some (.setReg { cond := .zero .a1, side := .b, x := true, dst := 0, src2 := 8, src1 := 15 }),
     some (.clrReg { cond := .nonzero .a2, side := .a, x := false, dst := 7, src2 := 13, src1 := 10 })] := by
  decide

/-- Continued: .S format. -/
theorem test_decode_S_4 :
    [0b1011_01110_00010_00101_0_101111_1000_1_0,
     0b0000_00101_00111_00000_1_101011_1000_0_0,
     0b0010_01100_10000_01011_1_001111_1000_1_0,
     0b0011_00001_00001_10110_0_001110_1000_1_0,
     0b0100_11101_00110_10001_0_001101_1000_1_0].map decoded = 
    [some (.extReg { cond := .zero .a2, side := .b, x := false, dst := 14, src2 := 2, src1 := 5 }),
     some (.extuReg { cond := .always, side := .a, x := true, dst := 5, src2 := 7, src1 := 0 }),
     some (.mvcRead { cond := .nonzero .b0, side := .b, x := true, dst := 12, src2 := 16, src1 := 11 }),
     some (.mvcWrite { cond := .zero .b0, side := .b, x := false, dst := 1, src2 := 1, src1 := 22 }),
     some (.bReg { cond := .nonzero .b1, side := .b, x := false, dst := 29, src2 := 6, src1 := 17 })] := by
  decide

/-- B displacement, B IRP, B NRP (R242, R252). -/
theorem test_decode_branch :
    [0b0101_00001_00110_01100_1_000011_1000_1_0,
     0b0110_01000_00111_10111_1_000011_1000_1_0,
     0b1000_101011010010110100101_00100_1_0].map decoded = 
    [some (.bIrp { cond := .zero .b1, side := .b, x := true, dst := 1, src1 := 12 }),
     some (.bNrp { cond := .nonzero .b2, side := .b, x := true, dst := 8, src1 := 23 }),
     some (.bDisp { cond := .nonzero .a1, side := .b, cst := 1418661 })] := by
  decide

/-- .D format (R238, R253). -/
theorem test_decode_D_1 :
    [0b0111_01111_00101_00010_010000_10000_0_0,
     0b1000_00110_01010_01101_010010_10000_1_0,
     0b1001_01101_01111_01000_010001_10000_0_0,
     0b1010_00100_00100_00011_010011_10000_1_0,
     0b1011_01011_01001_01110_110000_10000_0_0,
     0b0000_00010_01110_11001_110010_10000_1_0,
     0b0010_01001_00011_00100_110100_10000_0_0,
     0b0011_00000_01000_01111_110110_10000_1_0,
     0b0100_00111_01101_01010_111000_10000_0_0,
     0b0101_01110_00010_00101_111010_10000_1_0].map decoded = 
    [some (.addD { cond := .zero .b2, side := .a, dst := 15, src2 := 5, src1 := 2 }),
     some (.addDCst { cond := .nonzero .a1, side := .b, dst := 6, src2 := 10, src1 := 13 }),
     some (.subD { cond := .zero .a1, side := .a, dst := 13, src2 := 15, src1 := 8 }),
     some (.subDCst { cond := .nonzero .a2, side := .b, dst := 4, src2 := 4, src1 := 3 }),
     some (.addab { cond := .zero .a2, side := .a, dst := 11, src2 := 9, src1 := 14 }),
     some (.addabCst { cond := .always, side := .b, dst := 2, src2 := 14, src1 := 25 }),
     some (.addah { cond := .nonzero .b0, side := .a, dst := 9, src2 := 3, src1 := 4 }),
     some (.addahCst { cond := .zero .b0, side := .b, dst := 0, src2 := 8, src1 := 15 }),
     some (.addaw { cond := .nonzero .b1, side := .a, dst := 7, src2 := 13, src1 := 10 }),
     some (.addawCst { cond := .zero .b1, side := .b, dst := 14, src2 := 2, src1 := 5 })] := by
  decide

/-- Continued: .D format. -/
theorem test_decode_D_2 :
    [0b0110_00101_00111_00000_110001_10000_0_0,
     0b0111_01100_01100_11011_110011_10000_1_0,
     0b1000_00011_00001_00110_110101_10000_0_0,
     0b1001_01010_00110_10001_110111_10000_1_0,
     0b1010_00001_01011_01100_111001_10000_0_0,
     0b1011_01000_00000_00111_111011_10000_1_0].map decoded = 
    [some (.subab { cond := .nonzero .b2, side := .a, dst := 5, src2 := 7, src1 := 0 }),
     some (.subabCst { cond := .zero .b2, side := .b, dst := 12, src2 := 12, src1 := 27 }),
     some (.subah { cond := .nonzero .a1, side := .a, dst := 3, src2 := 1, src1 := 6 }),
     some (.subahCst { cond := .zero .a1, side := .b, dst := 10, src2 := 6, src1 := 17 }),
     some (.subaw { cond := .nonzero .a2, side := .a, dst := 1, src2 := 11, src1 := 12 }),
     some (.subawCst { cond := .zero .a2, side := .b, dst := 8, src2 := 0, src1 := 7 })] := by
  decide

/-- ADDK, MVK, MVKH (R239, R240). -/
theorem test_decode_constants :
    [0b0000_01111_1000000000000001_10100_0_0,
     0b0010_00110_0111111111111110_01010_1_0,
     0b0011_01101_1010010111000011_11010_0_0].map decoded = 
    [some (.addk { cond := .always, side := .a, dst := 15, cst := 32769 }),
     some (.mvk { cond := .nonzero .b0, side := .b, dst := 6, cst := 32766 }),
     some (.mvkh { cond := .zero .b0, side := .a, dst := 13, cst := 42435 })] := by
  decide

/-- the constant field operations (R241). -/
theorem test_decode_fields :
    [0b0100_00100_00100_10011_11110_00_0010_1_0,
     0b0101_01011_01001_11110_11111_01_0010_0_0,
     0b0110_00010_01110_01001_00000_10_0010_1_0,
     0b0111_01001_00011_10100_00001_11_0010_0_0].map decoded = 
    [some (.extu { cond := .nonzero .b1, side := .b, dst := 4, src2 := 4, csta := 19, cstb := 30 }),
     some (.ext { cond := .zero .b1, side := .a, dst := 11, src2 := 9, csta := 30, cstb := 31 }),
     some (.set { cond := .nonzero .b2, side := .b, dst := 2, src2 := 14, csta := 9, cstb := 0 }),
     some (.clr { cond := .zero .b2, side := .a, dst := 9, src2 := 3, csta := 20, cstb := 1 })] := by
  decide

/-- loads and stores with base and offset (R243, R254). -/
theorem test_decode_memory :
    [0b1001_00111_01101_01010_0000_0_0_000_01_0_0,
     0b1010_01110_00010_10101_1001_0_1_001_01_1_0,
     0b1011_00101_00111_00000_1110_0_1_010_01_0_0,
     0b0000_01100_01100_01011_0101_0_1_011_01_1_0,
     0b0010_00011_00001_00110_1100_0_0_100_01_0_0,
     0b0011_01010_00110_00001_0001_0_0_101_01_1_0,
     0b0100_00001_01011_01100_1010_0_0_110_01_0_0,
     0b0101_01000_00000_00111_1111_0_1_111_01_1_0].map decoded = 
    [some (.ldhu { cond := .zero .a1, unit := .a, side := .a, data := 7, base := 13, offset := 10, mode := .negCst }),
     some (.ldbu { cond := .nonzero .a2, unit := .b, side := .b, data := 14, base := 2, offset := 21, mode := .preIncCst }),
     some (.ldb { cond := .zero .a2, unit := .b, side := .a, data := 5, base := 7, offset := 0, mode := .postDecReg }),
     some (.stb { cond := .always, unit := .b, side := .b, data := 12, base := 12, offset := 11, mode := .posReg }),
     some (.ldh { cond := .nonzero .b0, unit := .a, side := .a, data := 3, base := 1, offset := 6, mode := .preDecReg }),
     some (.sth { cond := .zero .b0, unit := .a, side := .b, data := 10, base := 6, offset := 1, mode := .posCst }),
     some (.ldw { cond := .nonzero .b1, unit := .a, side := .a, data := 1, base := 11, offset := 12, mode := .postDecCst }),
     some (.stw { cond := .zero .b1, unit := .b, side := .b, data := 8, base := 0, offset := 7, mode := .postIncReg })] := by
  decide

/-- loads and stores with a 15-bit offset (R244, R254). -/
theorem test_decode_memory15 :
    [0b0110_01111_100101100101111_0_000_11_0_0,
     0b0111_00110_101000000000100_0_001_11_1_0,
     0b1000_01101_101010011011001_1_010_11_0_0,
     0b1001_00100_101100110101110_1_011_11_1_0,
     0b1010_01011_101111010000011_0_100_11_0_0,
     0b1011_00010_110001101011000_0_101_11_1_0,
     0b0000_01001_110100000101101_1_110_11_0_0,
     0b0010_00000_110110100000010_1_111_11_1_0].map decoded = 
    [some (.ldhu15 { cond := .nonzero .b2, fromB15 := false, side := .a, data := 15, offset := 19247 }),
     some (.ldbu15 { cond := .zero .b2, fromB15 := false, side := .b, data := 6, offset := 20484 }),
     some (.ldb15 { cond := .nonzero .a1, fromB15 := true, side := .a, data := 13, offset := 21721 }),
     some (.stb15 { cond := .zero .a1, fromB15 := true, side := .b, data := 4, offset := 22958 }),
     some (.ldh15 { cond := .nonzero .a2, fromB15 := false, side := .a, data := 11, offset := 24195 }),
     some (.sth15 { cond := .zero .a2, fromB15 := false, side := .b, data := 2, offset := 25432 }),
     some (.ldw15 { cond := .always, fromB15 := true, side := .a, data := 9, offset := 26669 }),
     some (.stw15 { cond := .nonzero .b0, fromB15 := true, side := .b, data := 0, offset := 27906 })] := by
  decide

/-- NOP and IDLE (R245, R246). -/
theorem test_decode_nop :
    [0b000000000000000_0111_0000000000000,
     0b000000000000000_1000_0000000000000,
     0b000000000000000_1111_0000000000000].map decoded = 
    [some (.nop 7),
     some .nop9,
     some .idle] := by
  decide

/-- the pseudo-operations: their words are the machine instructions (R671 to R675). -/
theorem test_decode_pseudo_1 :
    [0b0110_01100_01100_00000_1_0000010_110_1_0,
     0b0111_00010_00000_00000_0_0100000_110_0_0,
     0b1000_01010_00110_00000_0_000110_1000_1_0,
     0b1001_00001_01011_00000_010010_10000_0_0,
     0b1010_01000_00000_00000_1_0000110_110_1_0,
     0b1011_01110_00100_00000_0_0100100_110_0_0,
     0b0000_00110_01010_00000_0_010110_1000_1_0,
     0b0010_01101_01111_11111_1_1101110_110_0_0,
     0b0011_00100_00100_11111_1_001010_1000_1_0,
     0b0100_01011_01011_01011_0_0010111_110_0_0].map decoded = 
    [some (.addLCst { cond := .nonzero .b2, side := .b, x := true, dst := 12, src2 := 12, src1 := 0 }),
     some (.addLCstLong { cond := .zero .b2, side := .a, x := false, dst := 2, src2 := 0, src1 := 0 }),
     some (.addSCst { cond := .nonzero .a1, side := .b, x := false, dst := 10, src2 := 6, src1 := 0 }),
     some (.addDCst { cond := .zero .a1, side := .a, dst := 1, src2 := 11, src1 := 0 }),
     some (.subLCst { cond := .nonzero .a2, side := .b, x := true, dst := 8, src2 := 0, src1 := 0 }),
     some (.subLCstLong { cond := .zero .a2, side := .a, x := false, dst := 14, src2 := 4, src1 := 0 }),
     some (.subSCst { cond := .always, side := .b, x := false, dst := 6, src2 := 10, src1 := 0 }),
     some (.xorLCst { cond := .nonzero .b0, side := .a, x := true, dst := 13, src2 := 15, src1 := 31 }),
     some (.xorSCst { cond := .zero .b0, side := .b, x := true, dst := 4, src2 := 4, src1 := 31 }),
     some (.subLX { cond := .nonzero .b1, side := .a, x := false, dst := 11, src2 := 11, src1 := 11 })] := by
  decide

/-- Continued: the pseudo-operations: their words are the machine instructions. -/
theorem test_decode_pseudo_2 :
    [0b0101_00010_00010_00010_0_0110111_110_1_0,
     0b0110_01001_01001_01001_0_010111_1000_0_0,
     0b0111_00000_00000_00000_010001_10000_1_0,
     0b1000_00111_1010010111000011_01010_0_0,
     0b1001_01110_1010010111000011_11010_1_0].map decoded = 
    [some (.subLXToLong { cond := .zero .b1, side := .b, x := false, dst := 2, src2 := 2, src1 := 2 }),
     some (.subS { cond := .nonzero .b2, side := .a, x := false, dst := 9, src2 := 9, src1 := 9 }),
     some (.subD { cond := .zero .b2, side := .b, dst := 0, src2 := 0, src1 := 0 }),
     some (.mvk { cond := .nonzero .a1, side := .a, dst := 7, cst := 42435 }),
     some (.mvkh { cond := .zero .a1, side := .b, dst := 14, cst := 42435 })] := by
  decide
/-! ## The hooks of the host -/

theorem test_decodeTableWord :
    decodeTableWord 32 0x01882078 = some (.addL (ops 3 2 1)) ∧ decodeTableWord 16 0x12002 = none
      ∧ decodeTableWord 32 0x0001E000 = some .idle := by decide

theorem test_withFetchWord_runs :
    (after (step (State.reset.withFetchWord 32 0x0080002A))).map (fun t => (t.pc, t.reg .b 1)) = some (4, 0)
      ∧ (after (step (State.reset.withFetchWord 32 0x008002A9))).map (fun t => (t.pc, t.reg .a 1)) = some (8, 5)
      ∧ faultOf (step State.reset) = some .uninitialisedMemory := by decide

/-! ## Single steps -/

/-- V3, V202, V4, V5, V203, V11, V12, V23, V207, V208 of 95_test_vectors.md and 96_test_vectors_derived.md. -/
theorem test_step_L_1_a : [
    { word := 0x0104307A, regs := [(.a, 1, 0x0000325A), (.b, 1, 0xFFFFFF12)], after := [(.b, 2, 0x0000316C)] },
    { word := 0x02082478, regs := [(.a, 1, 0xFFFFFFFF), (.a, 2, 0xFFFFFFFF), (.a, 5, 0xDEADBEEF)], after := [(.a, 4,
      0xFFFFFFFE), (.a, 5, 0x000000FF)] },
    { word := 0x02082438, regs := [(.a, 1, 0x0000325A), (.a, 3, 0x000000FF), (.a, 2, 0xFFFFFF12), (.a, 5,
      0x00000000), (.a, 4, 0x00000000)], after := [(.a, 5, 0x00000000), (.a, 4, 0x0000316C)] },
    { word := 0x03066058, regs := [(.a, 1, 0x0000325A)], after := [(.a, 6, 0x0000324D)] },
    { word := 0x020A0418, regs := [(.a, 2, 0x0000000F), (.a, 3, 0xABCDEF00)], after := [(.a, 4, 0xFFFFFFFF), (.a, 5,
      0x000000FF)] },
    { word := 0x02082578, regs := [(.a, 1, 0x0000325A), (.a, 2, 0xFFFFFF12)], after := [(.a, 5, 0x00000001), (.a, 4,
      0x0000316C)] },
    { word := 0x02082538, regs := [(.a, 1, 0x0000325A), (.a, 3, 0x000000FF), (.a, 2, 0xFFFFFF12), (.a, 5,
      0x00000000), (.a, 4, 0x00000000)], after := [(.a, 5, 0x00000000), (.a, 4, 0x0000316C)] },
    { word := 0x018820F8, regs := [(.a, 1, 0x0000325A), (.a, 2, 0xFFFFFF12)], after := [(.a, 3, 0x00003348)] },
    { word := 0x018832F8, regs := [(.b, 1, 0x0000000A), (.a, 2, 0x00000003), (.a, 1, 0x00000064)], after := [(.a, 3,
      0x00000007)] },
    { word := 0x020836F8, regs := [(.b, 1, 0x80000000), (.a, 2, 0x00000001)], after := [(.a, 4, 0x7FFFFFFF), (.a, 5,
      0x000000FF)] }].map Case.passes = List.replicate 10 true := by
  decide

/-- V209, V455, V26, V24, V16, V18, V213 of 95_test_vectors.md and 96_test_vectors_derived.md. -/
theorem test_step_L_1_b : [
    { word := 0x0188A0D8, regs := [(.a, 2, 0x00000007)], after := [(.a, 3, 0xFFFFFFFE)] },
    { word := 0x02080498, regs := [(.a, 2, 0x00000000), (.a, 3, 0x00000080)], after := [(.a, 4, 0x00000000), (.a, 5,
      0x00000080)] },
    { word := 0x020825F8, regs := [(.a, 1, 0x0000325A), (.a, 2, 0xFFFFFF12)], after := [(.a, 5, 0x000000FF), (.a, 4,
      0x00003348)] },
    { word := 0x00040978, regs := [(.a, 0, 0x0000125A), (.a, 1, 0x00001F12)], after := [(.a, 0, 0x000024B4)] },
    { word := 0x01882278, regs := [(.a, 1, 0x5A2E51A3), (.a, 2, 0x012A3FA2)], after := [(.a, 3, 0x5B589145)] },
    { word := 0x03105638, regs := [(.b, 2, 0x112A3FA2), (.a, 5, 0x00000000), (.a, 4, 0x7C8339B1)], after := [(.a, 7,
      0x00000000), (.a, 6, 0x8DAD7953)] },
    { word := 0x02082618, regs := [(.a, 2, 0xFFFFFFFF), (.a, 3, 0x0000007F)], after := [(.a, 4, 0xFFFFFFFF), (.a, 5,
      0x0000007F)], sat := [1] }].map Case.passes = List.replicate 7 true := by
  decide

/-- V21, V216, V215, V19, V1, V222, V29, V30, V32, V34 of 95_test_vectors.md and 96_test_vectors_derived.md. -/
theorem test_step_L_2_a : [
    { word := 0x018821FA, regs := [(.b, 1, 0x5A2E51A3), (.b, 2, 0x802A3FA2)], after := [(.b, 3, 0x7FFFFFFF)], sat :=
      [1] },
    { word := 0x018833F8, regs := [(.b, 1, 0x80000000), (.a, 2, 0x00000001)], after := [(.a, 3, 0x80000000)], sat :=
      [1] },
    { word := 0x02080598, regs := [(.a, 2, 0x00000000), (.a, 3, 0x00000080)], after := [(.a, 4, 0xFFFFFFFF), (.a, 5,
      0x0000007F)], sat := [1] },
    { word := 0x0280081A, regs := [(.b, 1, 0x00000000), (.b, 0, 0xA1907321)], after := [(.b, 5, 0x7FFFFFFF)], sat :=
      [1] },
    { word := 0x02840358, regs := [(.a, 1, 0x80004E3D)], after := [(.a, 5, 0x7FFFB1C3)] },
    { word := 0x02080718, regs := [(.a, 2, 0x00000000), (.a, 3, 0x00000080)], after := [(.a, 4, 0xFFFFFFFF), (.a, 5,
      0x0000007F)] },
    { word := 0x01043F78, regs := [(.a, 1, 0xF7A1302A), (.b, 1, 0x02B6E724)], after := [(.a, 2, 0x02A02020)] },
    { word := 0x0185EF58, regs := [(.a, 1, 0x32E46936)], after := [(.a, 3, 0x00000006)] },
    { word := 0x040A8FDA, regs := [(.b, 2, 0x00003A41)], after := [(.b, 8, 0xFFFFFFF5)] },
    { word := 0x0405ADDA, regs := [(.b, 1, 0x00001023)], after := [(.b, 8, 0x0000102E)] }].map Case.passes = List.replicate 10 true := by
  decide

/-- V35, V36, V37, V273, V38, V40 of 95_test_vectors.md and 96_test_vectors_derived.md. -/
theorem test_step_L_2_b : [
    { word := 0x01043A78, regs := [(.a, 1, 0x000004B8), (.b, 1, 0x000004B7)], after := [(.a, 2, 0x00000000)] },
    { word := 0x01058A58, regs := [(.a, 1, 0x0000000C)], after := [(.a, 2, 0x00000001)] },
    { word := 0x00883A3A, regs := [(.a, 1, 0xF23A3789), (.b, 3, 0x000000FF), (.b, 2, 0xF23A3789)], after := [(.b, 1,
      0x00000001)] },
    { word := 0x020BEA18, regs := [(.a, 2, 0xFFFFFFFF), (.a, 3, 0x12345FFF)], after := [(.a, 4, 0x00000001)] },
    { word := 0x010438F8, regs := [(.a, 1, 0x000001B6), (.b, 1, 0x000008BD)], after := [(.a, 2, 0x00000000)] },
    { word := 0x010508D8, regs := [(.a, 1, 0x00000023)], after := [(.a, 2, 0x00000000)] }].map Case.passes = List.replicate 6 true := by
  decide

/-- V42, V43, V44, V45, V47, V272, V48, V49, V50, V51 of 95_test_vectors.md and 96_test_vectors_derived.md. -/
theorem test_step_L_3_a : [
    { word := 0x018829F8, regs := [(.a, 1, 0x00000128), (.a, 2, 0xFFFFFFDE)], after := [(.a, 3, 0x00000000)] },
    { word := 0x010549D8, regs := [(.a, 1, 0x00000005)], after := [(.a, 2, 0x00000001)] },
    { word := 0x0209C998, regs := [(.a, 3, 0x00000000), (.a, 2, 0x0000000A)], after := [(.a, 4, 0x00000001)] },
    { word := 0x01882AF8, regs := [(.a, 1, 0x000007E2), (.a, 2, 0x00000F6B)], after := [(.a, 3, 0x00000001)] },
    { word := 0x01052AD8, regs := [(.a, 1, 0x00000005)], after := [(.a, 2, 0x00000000)] },
    { word := 0x020BEA98, regs := [(.a, 2, 0xFFFFFFFE), (.a, 3, 0x000000FF)], after := [(.a, 4, 0x00000000)] },
    { word := 0x01882BF8, regs := [(.a, 1, 0x0000289A), (.a, 2, 0xFFFFF35E)], after := [(.a, 3, 0x00000001)] },
    { word := 0x0105CBD8, regs := [(.a, 1, 0x0000000F)], after := [(.a, 2, 0x00000001)] },
    { word := 0x01102BB8, regs := [(.a, 1, 0x003B8260), (.a, 5, 0x00000000), (.a, 4, 0x003A0002)], after := [(.a, 2,
      0x00000000)] },
    { word := 0x01882D78, regs := [(.a, 1, 0x00000001), (.a, 2, 0x009E3A81)], after := [(.a, 3, 0x00000008)] }].map Case.passes = List.replicate 10 true := by
  decide

/-- V280, V52, V285 of 95_test_vectors.md and 96_test_vectors_derived.md. -/
theorem test_step_L_3_b : [
    { word := 0x01880D58, regs := [(.a, 2, 0x7FFFFFFF)], after := [(.a, 3, 0x00000000)] },
    { word := 0x01040C78, regs := [(.a, 1, 0x02A3469F)], after := [(.a, 2, 0x00000005)] },
    { word := 0x02080C18, regs := [(.a, 2, 0x00000000), (.a, 3, 0xFFFFFF00)], after := [(.a, 4, 0x00000027)] }].map Case.passes = List.replicate 3 true := by
  decide

/-- V71, V72, V73, V74, V303, V75, V76, V77, V306, V78 of 95_test_vectors.md and 96_test_vectors_derived.md. -/
theorem test_step_M_1_a : [
    { word := 0x01882C80, regs := [(.a, 1, 0x0000007B), (.a, 2, 0x01E0FA81), (.a, 3, 0xDEADBEEF)], after := [(.a, 3,
      0xDEADBEEF)], late := [(.a, 3, 0xFFFD5BFB)], delay := 1 },
    { word := 0x0105AC00, regs := [(.a, 1, 0x3497FFF3), (.a, 2, 0xDEADBEEF)], after := [(.a, 2, 0xDEADBEEF)], late
      := [(.a, 2, 0xFFFFFF57)], delay := 1 },
    { word := 0x01882F80, regs := [(.a, 1, 0x0000FFFF), (.a, 2, 0x0000FFFF), (.a, 3, 0xDEADBEEF)], after := [(.a, 3,
      0xDEADBEEF)], late := [(.a, 3, 0xFFFE0001)], delay := 1 },
    { word := 0x01882E80, regs := [(.a, 1, 0x1234FFA1), (.a, 2, 0x1234FFA1), (.a, 3, 0xDEADBEEF)], after := [(.a, 3,
      0xDEADBEEF)], late := [(.a, 3, 0xFFA12341)], delay := 1 },
    { word := 0x01882D80, regs := [(.a, 1, 0x8001FFFE), (.a, 2, 0xFFFD8003), (.a, 3, 0xDEADBEEF)], after := [(.a, 3,
      0xDEADBEEF)], late := [(.a, 3, 0xFFFEFFFA)], delay := 1 },
    { word := 0x0105AF00, regs := [(.a, 1, 0x3497FFF3), (.a, 2, 0xDEADBEEF)], after := [(.a, 2, 0xDEADBEEF)], late
      := [(.a, 2, 0x000CFF57)], delay := 1 },
    { word := 0x01882080, regs := [(.a, 1, 0x00230000), (.a, 2, 0xFFA71234), (.a, 3, 0xDEADBEEF)], after := [(.a, 3,
      0xDEADBEEF)], late := [(.a, 3, 0xFFFFF3D5)], delay := 1 },
    { word := 0x01882380, regs := [(.a, 1, 0x00230000), (.a, 2, 0xFFA71234), (.a, 3, 0xDEADBEEF)], after := [(.a, 3,
      0xDEADBEEF)], late := [(.a, 3, 0x0022F3D5)], delay := 1 },
    { word := 0x01882280, regs := [(.a, 1, 0x8001FFFE), (.a, 2, 0xFFFD8003), (.a, 3, 0xDEADBEEF)], after := [(.a, 3,
      0xDEADBEEF)], late := [(.a, 3, 0xFFFE7FFD)], delay := 1 },
    { word := 0x01882180, regs := [(.a, 1, 0x00230000), (.a, 2, 0xFFA7FFFF), (.a, 3, 0xDEADBEEF)], after := [(.a, 3,
      0xDEADBEEF)], late := [(.a, 3, 0x0022F3D5)], delay := 1 }].map Case.passes = List.replicate 10 true := by
  decide

/-- V79, V309, V310, V311, V80, V313, V314, V315, V81, V317 of 95_test_vectors.md and 96_test_vectors_derived.md. -/
theorem test_step_M_1_b : [
    { word := 0x01882480, regs := [(.a, 1, 0x008A003E), (.a, 2, 0x21FF00A7), (.a, 3, 0xDEADBEEF)], after := [(.a, 3,
      0xDEADBEEF)], late := [(.a, 3, 0x00005A06)], delay := 1 },
    { word := 0x01882780, regs := [(.a, 1, 0x8001FFFE), (.a, 2, 0xFFFD8003), (.a, 3, 0xDEADBEEF)], after := [(.a, 3,
      0xDEADBEEF)], late := [(.a, 3, 0x40020003)], delay := 1 },
    { word := 0x01882680, regs := [(.a, 1, 0x8001FFFE), (.a, 2, 0xFFFD8003), (.a, 3, 0xDEADBEEF)], after := [(.a, 3,
      0xDEADBEEF)], late := [(.a, 3, 0xC0010003)], delay := 1 },
    { word := 0x01882580, regs := [(.a, 1, 0x8001FFFE), (.a, 2, 0xFFFD8003), (.a, 3, 0xDEADBEEF)], after := [(.a, 3,
      0xDEADBEEF)], late := [(.a, 3, 0xBFFF0003)], delay := 1 },
    { word := 0x01882880, regs := [(.a, 1, 0x0900000E), (.a, 2, 0x002900A7), (.a, 3, 0xDEADBEEF)], after := [(.a, 3,
      0xDEADBEEF)], late := [(.a, 3, 0x0000023E)], delay := 1 },
    { word := 0x01882B80, regs := [(.a, 1, 0x8001FFFE), (.a, 2, 0xFFFD8003), (.a, 3, 0xDEADBEEF)], after := [(.a, 3,
      0xDEADBEEF)], late := [(.a, 3, 0xFFFB0006)], delay := 1 },
    { word := 0x01882A80, regs := [(.a, 1, 0x8001FFFE), (.a, 2, 0xFFFD8003), (.a, 3, 0xDEADBEEF)], after := [(.a, 3,
      0xDEADBEEF)], late := [(.a, 3, 0xFFFD0006)], delay := 1 },
    { word := 0x01882980, regs := [(.a, 1, 0x8001FFFE), (.a, 2, 0xFFFD8003), (.a, 3, 0xDEADBEEF)], after := [(.a, 3,
      0xDEADBEEF)], late := [(.a, 3, 0xFFFE0006)], delay := 1 },
    { word := 0x01882D00, regs := [(.a, 1, 0x00000123), (.a, 2, 0x01E0FA81), (.a, 3, 0xDEADBEEF)], after := [(.a, 3,
      0xDEADBEEF)], late := [(.a, 3, 0xFFF38146)], delay := 1 },
    { word := 0x01882100, regs := [(.a, 1, 0x8001FFFE), (.a, 2, 0xFFFD8003), (.a, 3, 0xDEADBEEF)], late := [(.a, 3,
      0x0002FFFA)], delay := 1 }].map Case.passes = List.replicate 10 true := by
  decide

/-- V82, V83 of 95_test_vectors.md and 96_test_vectors_derived.md. -/
theorem test_step_M_1_c : [
    { word := 0x01882500, regs := [(.a, 1, 0x008A0000), (.a, 2, 0x000000A7), (.a, 3, 0xDEADBEEF)], after := [(.a, 3,
      0xDEADBEEF)], late := [(.a, 3, 0x0000B40C)], delay := 1 },
    { word := 0x01882900, regs := [(.a, 1, 0x00008000), (.a, 2, 0x80000000), (.a, 3, 0xDEADBEEF)], after := [(.a, 3,
      0xDEADBEEF)], late := [(.a, 3, 0x7FFFFFFF)], delay := 1, sat := [2] }].map Case.passes = List.replicate 2 true := by
  decide

/-- V204, V211, V454, V13, V27, V267, V31, V33, V456, V63 of 95_test_vectors.md and 96_test_vectors_derived.md. -/
theorem test_step_S_1_a : [
    { word := 0x008611A2, regs := [(.a, 1, 0x00000010)], after := [(.b, 1, 0x00000000)] },
    { word := 0x018825E0, regs := [(.a, 1, 0x00000000), (.a, 2, 0x00000001)], after := [(.a, 3, 0xFFFFFFFF)] },
    { word := 0x010405A0, regs := [(.a, 1, 0x00000001)], after := [(.a, 2, 0xFFFFFFFF)] },
    { word := 0x01043060, regs := [(.a, 1, 0x002137E1), (.b, 1, 0x039AE4B8)], after := [(.a, 2, 0x03BB1C99)] },
    { word := 0x02906460, regs := [(.a, 3, 0x11057021), (.a, 4, 0x11038A6E)], after := [(.a, 5, 0x0002E5B3)] },
    { word := 0x0107E7A0, regs := [(.a, 1, 0xA5A5A5A5)], after := [(.a, 2, 0xA5A5A5A5)] },
    { word := 0x029066E0, regs := [(.a, 3, 0x08A3A49F), (.a, 4, 0x00FF375A)], after := [(.a, 5, 0x08FFB7DF)] },
    { word := 0x029062E0, regs := [(.a, 3, 0x0721325A), (.a, 4, 0x00190F12)], after := [(.a, 5, 0x07383D48)] },
    { word := 0x0107E2A0, regs := [(.a, 1, 0x0F0F0F0F)], after := [(.a, 2, 0xF0F0F0F0)] },
    { word := 0x01002CE2, regs := [(.b, 0, 0x419751A5), (.b, 1, 0x00000009)], after := [(.b, 2, 0x2EA34A00)] }].map Case.passes = List.replicate 10 true := by
  decide

/-- V64, V254, V62 of 95_test_vectors.md and 96_test_vectors_derived.md. -/
theorem test_step_S_1_b : [
    { word := 0x01004C62, regs := [(.b, 1, 0x00000009), (.b, 0, 0x419751A5), (.b, 2, 0x00000022)], after := [(.b, 3,
      0x00000094), (.b, 2, 0x00000000)] },
    { word := 0x020464E0, regs := [(.a, 1, 0x80000001), (.a, 3, 0x00000008)], after := [(.a, 4, 0x00000100), (.a, 5,
      0x00000080)] },
    { word := 0x00808CA0, regs := [(.a, 0, 0x29E3D31C)], after := [(.a, 1, 0x9E3D31C0)] }].map Case.passes = List.replicate 3 true := by
  decide

/-- V66, V67, V65, V261, V262, V68, V70, V69, V240, V55 of 95_test_vectors.md and 96_test_vectors_derived.md. -/
theorem test_step_S_2_a : [
    { word := 0x01002DE2, regs := [(.b, 0, 0x14925A41), (.b, 1, 0x00000012)], after := [(.b, 2, 0x00000524)] },
    { word := 0x01004D62, regs := [(.b, 1, 0x00000012), (.b, 0, 0x14925A41), (.b, 2, 0x00000019)], after := [(.b, 3,
      0x00000000), (.b, 2, 0x0000090A)] },
    { word := 0x00810DA0, regs := [(.a, 0, 0xF12363D1)], after := [(.a, 1, 0xFFF12363)] },
    { word := 0x010469E0, regs := [(.a, 1, 0x80000000), (.a, 3, 0x00000020)], after := [(.a, 2, 0x00000000)] },
    { word := 0x0208C960, regs := [(.a, 2, 0x00000000), (.a, 3, 0x00000080), (.a, 6, 0x00000027)], after := [(.a, 4,
      0x00000001), (.a, 5, 0x00000000)] },
    { word := 0x008109A0, regs := [(.a, 0, 0xF12363D1)], after := [(.a, 1, 0x00F12363)] },
    { word := 0x010028E0, regs := [(.a, 0, 0x47191925), (.a, 1, 0x00000006)], after := [(.a, 2, 0x7FFFFFFF)], sat :=
      [1] },
    { word := 0x008048A0, regs := [(.a, 0, 0x02E3031C)], after := [(.a, 1, 0x0B8C0C70)] },
    { word := 0x01002EE2, regs := [(.b, 0, 0x9ED31A31), (.b, 1, 0x00000197)], after := [(.b, 2, 0x9EFFFA31)] },
    { word := 0x01046FE2, regs := [(.b, 1, 0x03B6E7D5), (.b, 3, 0x00000052)], after := [(.b, 2, 0x03B00001)] }].map Case.passes = List.replicate 10 true := by
  decide

/-- V59, V61 of 95_test_vectors.md and 96_test_vectors_derived.md. -/
theorem test_step_S_2_b : [
    { word := 0x01844BE0, regs := [(.a, 1, 0x03B6E7D5), (.a, 2, 0x00000073)], after := [(.a, 3, 0x000003B6)] },
    { word := 0x01844AE0, regs := [(.a, 1, 0x03B6E7D5), (.a, 2, 0x00000156)], after := [(.a, 3, 0x0000036E)] }].map Case.passes = List.replicate 2 true := by
  decide

/-- V6, V99, V210, V7, V8, V234, V9, V14, V236, V15 of 95_test_vectors.md and 96_test_vectors_derived.md. -/
theorem test_step_D : [
    { word := 0x03074940, regs := [(.a, 1, 0x0000325A)], after := [(.a, 6, 0x00003274)] },
    { word := 0x008428C0, regs := [(.a, 1, 0xB1746CA1)], after := [(.a, 1, 0x00000000)] },
    { word := 0x0107E9C0, regs := [(.a, 1, 0x00000010)], after := [(.a, 2, 0xFFFFFFF1)] },
    { word := 0x02105840, regs := [(.a, 2, 0x0000000B), (.a, 4, 0x00000100)], amr := 0x00020001, after := [(.a, 4,
      0x00000103)] },
    { word := 0x02105A40, regs := [(.a, 2, 0x0000000B), (.a, 4, 0x00000100)], amr := 0x00020001, after := [(.a, 4,
      0x00000106)] },
    { word := 0x04A05C40, regs := [(.a, 8, 0x00000100), (.a, 2, 0x40000001)], amr := 0x001F5555, after := [(.a, 9,
      0x00000104)] },
    { word := 0x02105D40, regs := [(.a, 4, 0x00020000)], amr := 0x00020001, after := [(.a, 4, 0x00020000)] },
    { word := 0x029418C0, regs := [(.a, 0, 0x00000004), (.a, 5, 0x00004000)], amr := 0x00030004, after := [(.a, 5,
      0x0000400C)] },
    { word := 0x02107BC0, regs := [(.a, 4, 0x00000102)], amr := 0x00030001, after := [(.a, 4, 0x0000010C)] },
    { word := 0x01945DC0, regs := [(.a, 5, 0x00000100)], amr := 0x00030004, after := [(.a, 3, 0x00000108), (.a, 5,
      0x00000100)] }].map Case.passes = List.replicate 10 true := by
  decide

/-- V10, V93, V95, V60, V58, V56, V54 of 95_test_vectors.md and 96_test_vectors_derived.md. -/
theorem test_step_constants : [
    { word := 0x009E14D0, regs := [(.a, 1, 0x002137E1)], after := [(.a, 1, 0x0021740A)] },
    { word := 0x047FFDAA, after := [(.b, 8, 0xFFFFFFFB)] },
    { word := 0x00851968, regs := [(.a, 1, 0x00007634)], after := [(.a, 1, 0x0A327634)] },
    { word := 0x01055308, regs := [(.a, 1, 0x07A43F2A)], after := [(.a, 2, 0x0000121F)] },
    { word := 0x01055348, regs := [(.a, 1, 0x07A43F2A)], after := [(.a, 2, 0xFFFFF21F)] },
    { word := 0x0080F588, regs := [(.a, 0, 0x4B134A1E)], after := [(.a, 1, 0x4B3FFF9E)] },
    { word := 0x010493C8, regs := [(.a, 1, 0x07A43F2A)], after := [(.a, 2, 0x07A0000A)] }].map Case.passes = List.replicate 7 true := by
  decide

/-- V334, V331, V330, V87, V85, V89, V86, V91, V84, V88 of 95_test_vectors.md and 96_test_vectors_derived.md. -/
theorem test_step_memory_a : [
    { word := 0x00900204, regs := [(.a, 4, 0x00002000), (.a, 1, 0xDEADBEEF)], bytes := [(0x2000, 0x80), (0x2001,
      0x7F), (0x2002, 0xFE), (0x2003, 0x01)], late := [(.a, 1, 0x00007F80)], delay := 4 },
    { word := 0x00900214, regs := [(.a, 4, 0x00002000), (.a, 1, 0xDEADBEEF)], bytes := [(0x2000, 0x80), (0x2001,
      0x7F), (0x2002, 0xFE), (0x2003, 0x01)], late := [(.a, 1, 0x00000080)], delay := 4 },
    { word := 0x00900224, regs := [(.a, 4, 0x00002000), (.a, 1, 0xDEADBEEF)], bytes := [(0x2000, 0x80), (0x2001,
      0x7F), (0x2002, 0xFE), (0x2003, 0x01)], late := [(.a, 1, 0xFFFFFF80)], delay := 4 },
    { word := 0x00A80234, regs := [(.a, 1, 0x9A327634), (.a, 10, 0x00000100)], bytes := [(0x100, 0x11)], stored :=
      [(0x100, 0x34)] },
    { word := 0x04103A44, regs := [(.a, 1, 0x00000002), (.a, 4, 0x00000020), (.a, 8, 0x110351FF)], bytes := [(0x24,
      0x1F), (0x25, 0xA2)], after := [(.a, 4, 0x00000024), (.a, 8, 0x110351FF)], late := [(.a, 8, 0xFFFFA21F)],
      delay := 4 },
    { word := 0x00A84254, regs := [(.a, 1, 0x9A327634), (.a, 10, 0x00000100)], bytes := [(0x104, 0x34), (0x105,
      0x11)], stored := [(0x104, 0x34), (0x105, 0x76)] },
    { word := 0x03103664, regs := [(.a, 4, 0x00000100), (.a, 6, 0x12344321)], bytes := [(0x100, 0x5A), (0x101,
      0xF2), (0x102, 0x98), (0x103, 0x07), (0x104, 0xF3), (0x105, 0x19), (0x106, 0x70), (0x107, 0x19)], after :=
      [(.a, 4, 0x00000104), (.a, 6, 0x12344321)], late := [(.a, 6, 0x0798F25A)], delay := 4 },
    { word := 0x00A83274, regs := [(.a, 1, 0x9A327634), (.a, 10, 0x00000100)], bytes := [(0x100, 0x34), (0x101,
      0x11), (0x102, 0x11), (0x103, 0x11), (0x104, 0x11), (0x105, 0x11), (0x106, 0x00), (0x107, 0x00)], after :=
      [(.a, 10, 0x00000104)], stored := [(0x104, 0x34), (0x105, 0x76), (0x106, 0x32), (0x107, 0x9A), (0x100, 0x34),
      (0x101, 0x11), (0x102, 0x11), (0x103, 0x11)] },
    { word := 0x0080242E, regs := [(.b, 1, 0xDEADBEEF), (.b, 14, 0x00000100)], bytes := [(0x124, 0x12), (0x125,
      0xFF), (0x126, 0x7A), (0x127, 0x4E)], after := [(.b, 1, 0xDEADBEEF)], late := [(.b, 1, 0x00000012)], delay :=
      4 },
    { word := 0x0080283E, regs := [(.b, 1, 0x12345678), (.b, 14, 0x00001000)], bytes := [(0x1028, 0x42)], stored :=
      [(0x1028, 0x78)] }].map Case.passes = List.replicate 10 true := by
  decide

/-- V353, V352 of 95_test_vectors.md and 96_test_vectors_derived.md. -/
theorem test_step_memory_b : [
    { word := 0x0080014E, regs := [(.b, 14, 0x00003000), (.b, 1, 0xDEADBEEF)], bytes := [(0x3002, 0x00), (0x3003,
      0x80)], late := [(.b, 1, 0xFFFF8000)], delay := 4 },
    { word := 0x00FFFFEC, regs := [(.b, 15, 0x00001000), (.a, 1, 0xDEADBEEF)], bytes := [(0x20FFC, 0x0D), (0x20FFD,
      0xF0), (0x20FFE, 0xFE), (0x20FFF, 0xCA)], late := [(.a, 1, 0xCAFEF00D)], delay := 4 }].map Case.passes = List.replicate 2 true := by
  decide

/-- ADD .L1 A1,A2,A3 ; the same with p = 1 ; NOP ; B .S2 B3 ; STW .D1 A1,*A4++[1]. -/
def wAdd : Word := 0b0000_00011_00010_00001_0_0000011_110_0_0
def wAddP : Word := 0b0000_00011_00010_00001_0_0000011_110_0_1
def wSubB : Word := 0b0000_00011_00010_00001_0_0000111_110_1_0
def wNop : Word := 0
def wStw : Word := 0b0000_00001_00100_00001_1011_0_0_111_01_0_0

def iAdd : Instr := .addL (ops 3 2 1)
def iStw : OpsMem :=
  { cond := .always, unit := .a, side := .a, data := 1, base := 4, offset := 1, mode := .postIncCst }

/-- Ten NOPs at 0. -/
def idleRun : State := start (List.replicate 10 wNop) []

/-- A state one word of code long. -/
def one (w : Word) : State := start [w] [(.a, 1, 5), (.a, 2, 7), (.a, 4, 0x100)]

/-- A Reset in the coming cycle. -/
def resetNext (s : State) : State := { s with env := [{ reset := true, arrive := 0 }] }

/-- All interrupts enabled. -/
def enabled (s : State) : State := { s with csr := s.csr ||| 1, ier := 0xFFF3 }

/-! ## Witnesses: for each statement with hypotheses, states and operands that meet them -/

theorem test_witness_StepKeepsInvariant : (one wAdd).Inv ∧ ∃ t, step (one wAdd) = .next t :=
  ⟨by decide, _, rfl⟩

theorem test_witness_ResetEventEmptiesTheHiddenState : (resetNext (one wAdd)).envNow.reset = true := rfl

theorem test_witness_EncodedInstructionDecodesBack :
    (Instr.mvLLong { cond := .zero .a2, side := .b, x := true, dst := 14, src2 := 14 }).WellFormed
      ∧ (Instr.stw { iStw with data := 15, base := 15, offset := 31 }).WellFormed ∧ Instr.idle.WellFormed := by decide

theorem test_witness_DecodedWordEncodesBack : ∃ i, decode wAddP = .ok i ∧ encode i = wAdd := ⟨iAdd, rfl, rfl⟩

theorem test_witness_DecodedInstructionIsWellFormed : ∃ i, decode wStw = .ok i := ⟨.stw iStw, rfl⟩

/-- Words at the edges of each clause; every one is refused. -/
theorem test_witness_IllegalWordsDoNotDecode :
    ([0xC0000000, 0xE0000000, 0x10000000].all fun w : Nat => decide (w / 2 ^ 29 = 6 ∨ w / 2 ^ 29 = 7
      ∨ w / 2 ^ 29 = 0 ∧ w / 2 ^ 28 % 2 = 1)) = true
    ∧ ([0x30, 0x70].all fun w : Nat => decide (w / 4 % 32 = 0b01100 ∨ w / 4 % 32 = 0b11100)) = true
    ∧ ([0x104, 0x404, 0x604, 0xC04, 0xE04].all fun w : Nat => decide (w / 4 % 32 % 4 = 1)) = true
    ∧ ([0x20000, 0x2, 0x1000, 0x12000, 0x1C000].all fun w : Nat => decide (w / 4 % 32 = 0 ∧ w / 2 ^ 7 % 32 = 0)
      || decide (w = 0x1000)) = true
    ∧ ([0xC0000000, 0xE0000000, 0x10000000, 0x30, 0x70, 0x104, 0x404, 0x604, 0xC04, 0xE04, 0x20000, 0x2, 0x1000, 0x12000,
      0x1C000].all fun w : Nat => (decoded (BitVec.ofNat 32 w)).isNone) = true := by decide

theorem test_witness_StepRunsTheDecodedInstruction :
    (one wAdd).envNow.reset = false ∧ (one wAdd).held = false ∧ (one wAdd).pc.toNat % 4 = 0
      ∧ (one wAdd).fetchWord (one wAdd).pc = .ok wAdd ∧ wAdd.getLsbD 0 = false ∧ decode wAdd = .ok iAdd :=
  ⟨rfl, rfl, rfl, rfl, rfl, rfl⟩

/-- A launch with a memory map and a text range. -/
def mapped (text : List Config.TextRange) (map : List Config.Region) (rs : List RegIs) : State :=
  withRegs (State.resetWith { istbReset := 0, map := map, text := text } 1 true) rs

/-- A region at 0 of the given size. -/
def low (size : Nat) (space : Config.Space) : Config.Region := { base := 0, size := size, space := space }

/-- Data memory, a peripheral and no region at all at 0: the fetch is unmapped.  A peripheral listed before a program memory
does not stand in its way: the fetch gets as far as its bytes, which hold nothing. -/
theorem test_fetch_wants_program_memory :
    [[low 0x1000 .data], [low 0x1000 .peripheral, low 0x1000 .data], [], [low 0x1000 .peripheral, low 0x1000 .program]].map
      (fun map => faultOf (step (mapped [] map [])))
      = [some .unmappedAccess, some .unmappedAccess, some .unmappedAccess, some .uninitialisedMemory] := by decide

/-- A legal packet, a packet with two instructions on .L1, a packet whose second word is none, a map without program
memory. -/
theorem test_witness_StepRunsAWholePacket :
    (start [wAddP, wSubB] []).envNow.reset = false ∧ (start [wAddP, wSubB] []).held = false
      ∧ (start [wAddP, wSubB] []).fetchPacket = .ok [wAddP, wSubB]
      ∧ decodeAll [wAddP, wSubB] = .ok [iAdd, .subL (opsB 3 2 1)] ∧ packetError [iAdd, .subL (opsB 3 2 1)] = none
      ∧ packetError [iAdd, iAdd] = some .unitTwice
      ∧ (∀ v ∈ [wAddP], ∃ i, decode v = .ok i) ∧ decode 0x30 = .error .noFormat
      ∧ refusedOf (step (start [wAddP, 0x30] [])) = some (.illegalWord .noFormat)
      ∧ refusedOf (step (start [wAddP, wAdd] [])) = some (.illegalPacket .unitTwice)
      ∧ (let s := mapped [] [low 1 .peripheral, { base := 0, size := 0x1000, space := .data }] []
        s.envNow.reset = false ∧ s.held = false ∧ s.pc.toNat % 4 = 0
          ∧ ∀ r ∈ s.launch.map, r.space = .data ∨ r.space = .peripheral) :=
  ⟨rfl, rfl, rfl, rfl, rfl, rfl, by simpa using ⟨iAdd, rfl⟩, rfl, rfl, rfl, rfl, rfl, rfl, by decide⟩

/-- A packet of one word in the last place of its fetch packet, one of eight words, and a p-bit of 1 in the last place. -/
theorem test_witness_PacketEndsAtTheFirstClearPBit :
    (let s := { start [wNop, wNop, wNop, wNop, wNop, wNop, wNop, wAdd] [] with pc := 28 }
     s.pc.toNat % 4 = 0 ∧ s.pc.toNat % 32 / 4 + 0 ≤ 7 ∧ s.fetchPacket = .ok [wAdd])
    ∧ (let s := start (List.replicate 7 1 ++ [0]) []
       s.pc.toNat % 32 / 4 + 7 ≤ 7 ∧ s.fetchPacket = .ok (List.replicate 7 1 ++ [0]))
    ∧ (let s := start (List.replicate 8 1) []
       s.pc.toNat % 32 / 4 + 7 = 7 ∧ s.fetchPacket = .error (.refused (.illegalPacket .crossesFetchPacket))) :=
  ⟨⟨rfl, by decide, rfl⟩, ⟨by decide, rfl⟩, ⟨rfl, rfl⟩⟩

/-- V120, V122 and V126 of 95_test_vectors.md, an idle word between; R824 (a), (b), (c) on one file and their legal
neighbours on two; R826's five and four reads of A1; a legal packet of all eight units. -/
theorem test_witness_SharedResourcesMakeAPacketIllegal :
    (Instr.addS (ops 2 1 0)).use.unit ≠ none ∧ (Instr.addS (ops 2 1 0)).use.unit = (Instr.shrCst (ops 4 3 15)).use.unit
      ∧ packetError [.nop 0, .addS (ops 2 1 0), .nop 0, .shrCst (ops 4 3 15)] = some .unitTwice
      ∧ (Instr.mvS { cond := .always, side := .a, x := true, dst := 0, src2 := 0 }).use.cross = some .a
      ∧ (Instr.mvL { cond := .always, side := .a, x := true, dst := 0, src2 := 1 }).use.cross = some .a
      ∧ (Instr.ldw iStw).use.dataPath = some .a
      ∧ (Instr.stw { iStw with unit := .b, side := .a }).use.dataPath = some .a
      ∧ packetError [.ldw iStw, .stw { iStw with unit := .b }] = some .dataPathTwice
      ∧ ([[.addLLong (ops 4 2 1), .shlLong (ops 6 8 3)], [.addLToLong (ops 4 2 1), .shlToLong (ops 6 8 3)],
          [.addLToLong (ops 4 2 1), .shlToLong (opsB 6 8 3)], [.cmpeqLong (ops 4 2 1), .shlLong (opsB 6 8 3)],
          [.cmpeqLong (ops 4 2 1), .stw iStw], [.cmpeqLong (opsB 4 2 1), .stw iStw],
          [.mpy (ops 4 1 1), .addL (ops 5 1 1), .subD { cond := .always, side := .a, dst := 3, src2 := 1, src1 := 2 }],
          [.mpy (ops 4 1 1), .addL (ops 5 1 0), .subD { cond := .always, side := .a, dst := 3, src2 := 2, src1 := 1 }],
          [.addL (ops 3 2 1), .addS (ops 4 2 1), .mpy (ops 5 2 1), .stw iStw, .addL (opsB 3 2 1), .addS (opsB 4 2 1),
            .mpy (opsB 5 2 1), .ldw { iStw with unit := .b, side := .b }]] : List (List Instr)).map packetError
        = [some .longResultTwice, some .longResultTwice, none, none, some .longSourceWithStore, none, some .fiveReads, none,
          none] := by decide

theorem test_witness_ExecOnlyAddsEffects :
    (∃ t, exec iAdd (one wAdd) = .next t) ∧ (one wAdd).e1.Ok :=
  ⟨⟨_, rfl⟩, by
    have h : (one wAdd).e1 = {} := rfl
    rw [h]
    constructor <;> simp [Hold.small]⟩

theorem test_witness_OnlyTheNamedInstructionsHaveTheEffect :
    (∃ t, exec iAdd (one wAdd) = .next t) ∧ iAdd.use.storeFile = none ∧ iAdd.writesControl = false
      ∧ iAdd.maySetSat = false ∧ iAdd.isBranch = false
      ∧ (∃ t, exec (.bReg (opsB 0 0 0)) (one wAdd) = .next t) ∧ (Instr.bReg (opsB 0 0 0)).isBranch = true :=
  ⟨⟨_, rfl⟩, rfl, rfl, rfl, rfl, ⟨_, rfl⟩, rfl⟩

theorem test_witness_PacketReadsTheStartOfTheCycle :
    (let s := one wAdd
     let u := s.putReg .a 1 9
     u = { s with e1 := u.e1 } ∧ (∃ t, exec iAdd s = .next t) ∧ ∃ v, exec iAdd u = .next v) :=
  ⟨rfl, ⟨_, rfl⟩, ⟨_, rfl⟩⟩

/-- An ADD and a branch, both under [A1] with A1 = 0. -/
theorem test_witness_FalseConditionRemovesTheInstruction :
    wordCond (encode (.addL { ops 3 2 1 with cond := .nonzero .a1 })) = .ok (.nonzero .a1)
      ∧ wordCond (encode (.bReg { opsB 0 0 0 with cond := .nonzero .a1 })) = .ok (.nonzero .a1)
      ∧ State.reset.holds (.nonzero .a1) = false := ⟨rfl, rfl, rfl⟩

/-- Interrupt entry, a power-down, a NOP's last held cycle and IDLE. -/
theorem test_witness_HeldCycleIssuesNothing :
    ([{ idleRun with intHold := 7 }, { idleRun with power := .pd1Any }, { idleRun with hold := .count 1 },
      { idleRun with hold := .idle }].all fun s =>
        decide (s.e1 = {}) && decide (s.envNow.reset = false)
          && decide (s.intHold ≠ 0 ∨ s.power ≠ .none ∨ s.hold ≠ .count 0) && (after (step s)).isSome) = true := by decide

/-- One write in E1 and one in flight that lands, and one register that neither touches. -/
theorem test_witness_RegistersAtTheEndOfACycle :
    (let s : State := { State.reset.putReg .b 15 1 with pendingRegs := [{ write := ⟨.a, 0, 2⟩, left := 1 }] }
     (after (s.endCycle none)).map (fun t => (t.reg .b 15, t.reg .a 0, t.reg .a 1)) = some (1, 2, 0)) := by decide

/-- Equal values conflict too; the two halves of a pair do not. -/
theorem test_witness_TwoWritesToOneRegisterAreAFault :
    (let s : State := { State.reset.putReg .b 15 1 with pendingRegs := [{ write := ⟨.b, 15, 1⟩, left := 1 }] }
     faultOf (s.endCycle none) = some .writeConflict)
    ∧ faultOf ((State.reset.putLong .a 14 5).endCycle none) = none := by decide

/-- A result with one and with four cycles left, which after three cycles is still in flight and its register as it was;
an ADD that meanwhile writes another register; and a load's result in E1. -/
theorem test_witness_DelayedResultLands :
    ([1, 4].all fun k : Nat =>
      let s : State := { idleRun with pendingRegs := [{ write := ⟨.a, 15, 3⟩, left := k }] }
      decide (1 ≤ k) && decide (s.env.take k = []) && decide ((after (run k s)).map (fun t => t.reg .a 15) = some 3))
      = true
    ∧ (let s : State := { start (wAdd :: List.replicate 9 wNop) [(.a, 15, 9)] with
        pendingRegs := [{ write := ⟨.a, 15, 3⟩, left := 4 }] }
       (after (run 3 s)).map (fun t => (t.reg .a 15, t.pendingRegs)) = some (9, [{ write := ⟨.a, 15, 3⟩, left := 1 }])
         ∧ s.e1 = {} ∧ s.env.take 3 = [] ∧ (after (runPacket [iAdd] s)).map (fun t => t.e1.regs.map (·.reg)) = some [3])
    ∧ (after ((State.reset.putLate .b 0 7 4).endCycle none)).map State.pendingRegs
      = some [{ write := ⟨.b, 0, 7⟩, left := 4 }] := by decide

theorem test_witness_MemoryAtTheEndOfACycle :
    (let s : State := { State.reset with e1 := { stores := [(0, 1), (4294967295, 2)] } }
     (after (s.endCycle none)).map (fun t => (t.mem.read 0, t.mem.read 4294967295, t.mem.read 1))
      = some (some 1, some 2, none)) := by decide

/-- A state in which MVC or a return has asked for a write. -/
def asking (c : CtrlWrite) : State := { State.reset with e1 := { ctrl := [c] } }

/-- Each register's write with all ones (or all that is legal), each PWRD value, the two returns. -/
theorem test_witness_ControlWritesTakeEffect :
    ([.amr 0xFFFFFFFF, .isr 0xFFFFFFFF, .icr 0xFFFFFFFF, .ier 0xFFFFFFFF, .istp 0xFFFFFFFF, .irp 0xFFFFFFFF,
      .nrp 0xFFFFFFFF, .returnIrp, .returnNrp, .csr 0xFFFF03FF true, .csr 0x2400 false, .csr 0x4400 false,
      .csr 0x6800 false, .csr 0x7000 false].all fun c =>
        (asking c).decision == none && (after ((asking c).endCycle none)).isSome && (asking c).power == .none
          && decide (∀ k ∈ (asking c).pendingSat, 1 < k)) = true
    ∧ (after ((asking (.csr 0xFFFF03FF true)).endCycle none)).map (fun t => (t.csr, t.power)) = some (0x000103FF, .none)
    ∧ (after ((asking (.csr 0x7000 false)).endCycle none)).map State.power = some .pd3
    ∧ (after ((asking (.ier 0xFFFFFFFF)).endCycle none)).map State.ier = some 0xFFF3 := by decide

theorem test_witness_ControlRegistersAreKept :
    (let s := { State.reset with e1 := { ctrl := [.istp 5] } }
     (∀ v, .amr v ∉ s.e1.ctrl) ∧ (∀ v, .irp v ∉ s.e1.ctrl) ∧ (∀ v, .nrp v ∉ s.e1.ctrl) ∧ (∀ v, .ier v ∉ s.e1.ctrl)
       ∧ .returnNrp ∉ s.e1.ctrl ∧ .returnIrp ∉ s.e1.ctrl ∧ (∀ v b, .csr v b ∉ s.e1.ctrl) ∧ s.decision = none
       ∧ s.wakes = false ∧ s.pendingSat = [] ∧ ∃ t, s.endCycle none = .next t)
    ∧ (∀ v, .istp v ∉ State.reset.e1.ctrl) := by
  refine ⟨⟨?_, ?_, ?_, ?_, ?_, ?_, ?_, rfl, rfl, rfl, _, rfl⟩, ?_⟩ <;> simp [State.reset, State.resetWith]

/-- A set falling due beside a clear; a clear alone; neither; a request two cycles away. -/
theorem test_witness_SatIsSetByResultsAndClearedByMvc :
    (let s : State := { asking (.csr 0 false) with pendingSat := [1, 2] }
     (after (s.endCycle none)).map (fun t => (t.satBit, t.pendingSat)) = some (true, [1]))
    ∧ (let s : State := { asking (.csr 0 false) with pendingSat := [2], csr := 0x300 }
       (after (s.endCycle none)).map (fun t => (t.satBit, t.pendingSat)) = some (false, [1]))
    ∧ (let s : State := { State.reset with csr := 0x300, e1 := { sat := [2] } }
       (after (s.endCycle none)).map (fun t => (t.satBit, t.pendingSat)) = some (true, [2])) := by decide

/-- INT4 and INT15 arriving against an ICR of both, INT4 entered, and NMI arriving. -/
theorem test_witness_InterruptFlagUpdate :
    (let s : State := { State.reset with intLatch := 0x8000, pendingIfr := { clear := 0x8010 }, ifr := 0x8010 }
     (after (s.endCycle none)).map State.ifr = some 0x8000)
    ∧ (let s : State := { State.reset with intHold := 6, entering := 4, ifr := 0x8010 }
       (after (s.endCycle none)).map State.ifr = some 0x8000)
    ∧ (let s : State := { State.reset with intLatch := 2 }
       s.pendingIfr.set.getLsbD 1 = false ∧ s.pendingIfr.clear.getLsbD 1 = false
         ∧ (after (s.endCycle none)).map State.ifr = some 2) := by decide

/-- NMI with GIE = 0, INT4 and INT15 with GIE = 1; none behind a branch. -/
theorem test_witness_InterruptIsTakenExactlyWhen :
    ({ State.reset with ier := 0xFFF3, intLatch := 0x8012 } : State).decision = some 1
      ∧ (enabled { State.reset with intLatch := 0x8010, branchShadow := 1 }).decision = some 4
      ∧ (enabled { State.reset with ifr := 0x8000 }).decision = some 15
      ∧ (enabled { State.reset with ifr := 0x8000, branchShadow := 2 }).decision = none := by decide

/-- INT15, NMI, and INT4 beside a write of CSR. -/
theorem test_witness_InterruptEntrySavesAndRedirects :
    (let s := enabled { State.reset with intLatch := 0x8000 }
     s.decision = some 15 ∧ (∃ u, s.advancePc (some 1) = .ok u) ∧ s.e1.ctrl = []
       ∧ (after (s.endCycle (some 1))).map (fun t => (t.pc, t.irp, t.csr, t.intHold)) = some (0x1E0, 4, 0x10102, 7))
    ∧ (let s := enabled { State.reset with intLatch := 2 }
       s.decision = some 1 ∧ (∃ u, s.advancePc none = .ok u)
         ∧ (after (s.endCycle none)).map (fun t => (t.pc, t.nrp, t.csr, t.ier)) = some (0x20, 0, 0x10101, 0xFFF1))
    ∧ (let s := enabled { asking (.csr 0 false) with intLatch := 16 }
       s.decision = some 4 ∧ s.power = .none ∧ (∃ u, s.advancePc (some 1) = .ok u)
         ∧ (after (s.endCycle (some 1))).map (fun t => (t.irp, t.pgie, t.gie)) = some (4, false, false)) :=
  ⟨⟨rfl, ⟨_, rfl⟩, rfl, rfl⟩, ⟨rfl, ⟨_, rfl⟩, rfl⟩, ⟨rfl, rfl, ⟨_, rfl⟩, rfl⟩⟩

theorem test_witness_InterruptEntryLastsSevenCycles :
    (let s := { idleRun with intHold := 7, entering := 15, pc := 0x1E0 }
     s.pendingBranches = [] ∧ s.e1 = {} ∧ s.env.take 7 = [] ∧ s.envNow.reset = false
       ∧ (after (run 7 s)).map (fun t => (t.intHold, t.pc)) = some (0, 0x1E0))
    ∧ (after (step { idleRun with intHold := 6, entering := 15 })).map (fun t => (t.iack, t.inum)) = some (true, 15)
    ∧ (after (step { idleRun with intHold := 1, entering := 15 })).map (fun t => (t.iack, t.inum)) = some (false, 0) := by
  decide

/-- Branches one and five cycles away in flight together, one whose last cycle sees an interrupt, and one in E1. -/
theorem test_witness_BranchLandsAfterFiveDelaySlots :
    ([1, 5].all fun k : Nat =>
      let s : State := { start (List.replicate 16 wNop) [] with
        pendingBranches := [{ target := 0x14, left := 1 }, { target := 0x80, left := 5 }], branchShadow := 5 }
      decide (∃ p ∈ s.pendingBranches, p.left = k ∧ k ≤ 5) && decide (∀ q ∈ s.pendingBranches, 1 ≤ q.left)
        && decide (s.pendingBranches.Pairwise fun q r => q.left ≠ r.left) && decide (s.env.take k = [])
        && decide ((after (run k s)).map (fun t => (t.pc, t.hold)) = some (if k = 1 then 0x14 else 0x80, .count 0)))
      = true
    ∧ (let b : PendingBranch := { target := 0x80, left := 1 }
       let s : State := enabled { idleRun with pendingBranches := [b], branchShadow := 1, ifr := 16 }
       (after (run 1 s)).map (fun t => (t.pc, t.irp, t.intHold)) = some (0x80, 0x80, 7))
    ∧ (let s : State := { State.reset with e1 := { branch := some 4, branchSeen := true } }
       (after (s.endCycle (some 1))).map (fun t => (t.pendingBranches, t.branchShadow))
        = some ([{ target := 4, left := 5 }], 5)) := by decide

/-- One word, eight words, a held cycle of each kind, and the last words of the address space. -/
theorem test_witness_ProgramPointerAdvances :
    State.reset.decision = none ∧ State.reset.pendingBranches = []
      ∧ (after (State.reset.endCycle (some 8))).map State.pc = some 32
      ∧ (after (({ State.reset with hold := .count 8 } : State).endCycle none)).map State.hold = some (.count 7)
      ∧ (after (({ State.reset with hold := .idle } : State).endCycle none)).map State.hold = some .idle
      ∧ faultOf (({ State.reset with pc := 0xFFFFFFFC } : State).endCycle (some 1)) = some .pcWrap
      ∧ 2 ^ 32 ≤ ({ State.reset with pc := 0xFFFFFFFC } : State).pc.toNat + 4 * 1 := by decide

/-- Asleep in each mode, with an interrupt pending and enabled, pending alone, and none; and woken by INT4 and by NMI that
are taken at once. -/
theorem test_witness_PowerDownEndsAsItsModeSays :
    (let s (p : Power) (ifr ier : Word) : State := { State.reset with power := p, ifr := ifr, ier := ier }
     [s .pd1Enabled 16 17, s .pd1Enabled 16 1, s .pd1Any 0x8000 1, s .pd1Any 0 0xFFF1, s .pd2 0xFFF2 1,
      s .pd3 0xFFF2 1].map (fun s => (s.decision, s.e1 == {}, s.pendingSat, (after (s.endCycle none)).map State.power))
      = [(none, true, [], some .none), (none, true, [], some .pd1Enabled), (none, true, [], some .none),
        (none, true, [], some .pd1Any), (none, true, [], some .pd2), (none, true, [], some .pd3)])
    ∧ (let s (p : Power) (ifr : Word) : State :=
        { enabled State.reset with power := p, ifr := ifr, pc := 0x40, irp := 1, nrp := 2 }
       [s .pd1Enabled 16, s .pd1Any 2].map (fun s => (s.decision, s.e1 == {}, s.pendingBranches.isEmpty)) = [(some 4, true, true), (some 1, true, true)]
       ∧ [s .pd1Enabled 16, s .pd1Any 2].map (fun s =>
         (after (s.endCycle none)).map (fun t => (t.power == .none, t.irp, t.nrp, t.entering)))
        = [some (true, 0x40, 2, 4), some (true, 1, 0x40, 1)]) :=
  ⟨by decide, by decide⟩

/-- An idle CPU, and one in PD3 with interrupts pending. -/
theorem test_witness_QuiescentCpuStaysAsItIs :
    ([{ State.reset with hold := .idle }, { State.reset with power := .pd3, ifr := 0xFFF2 }].all fun s =>
      decide (s.hold = .idle ∨ s.power ≠ .none) && decide (s.pendingBranches = []) && decide (s.pendingRegs = [])
        && decide (s.pendingSat = []) && decide (s.pendingIfr = {}) && decide (s.e1 = {}) && decide (s.env = [])
        && decide (s.intLatch = 0) && decide (s.branchShadow = 0) && decide (s.intHold = 0)
        && decide (s.hold = .idle ∨ s.hold = .count 0) && decide (s.decision = none) && decide (s.wakes = false))
      = true := by decide

/-- NMIE goes to 0 by a Reset and by an NMI. -/
theorem test_witness_WhatNoInstructionChanges :
    (let s := resetNext (enabled (one wAdd))
     s.nmie = true ∧ (after (step s)).map State.nmie = some false)
    ∧ (let s := { enabled (one wAdd) with ifr := 2 }
       s.nmie = true ∧ (after (step s)).map (fun t => (t.nmie, t.intHold, t.entering)) = some (false, 7, 1)) := by decide

/-- A store with a base update: one register, four bytes. -/
def storeCells : List Host.Cell := [(0x100, 5), (0x101, 0), (0x102, 0), (0x103, 0)]

theorem one_quiet (w : Word) : (one w).Quiet := by
  constructor
  case none => exact (by decide : lowestSet (candidates 0 1) = none)
  all_goals rfl

theorem test_witness_LoneInstructionChangesOnlyItsResults :
    (one wStw).Quiet ∧ (one wStw).pc.toNat % 4 = 0 ∧ (one wStw).pc.toNat + 4 < 2 ^ 32
      ∧ (one wStw).fetchWord (one wStw).pc = .ok wStw ∧ wStw.getLsbD 0 = false ∧ decode wStw = .ok (.stw iStw)
      ∧ (∃ u, exec (.stw iStw) (one wStw) = .next u
        ∧ u.e1 = { regs := [{ side := .a, reg := 4, value := 0x104 }], stores := storeCells })
      ∧ storeCells.Pairwise (fun c d => c.1 ≠ d.1) :=
  ⟨one_quiet _, rfl, by decide, rfl, rfl, rfl, ⟨_, rfl, rfl⟩, by decide⟩

/-- Nothing stands in the way of a store of n bytes. -/
def canStore (s : State) (a n : Nat) : Prop :=
  ∀ i ∈ List.range n, s.checkData (a + i) = .ok () ∧ s.isText (a + i) = false ∧ s.e1.stores = []

theorem storable_of_canStore {s : State} {a n : Nat} (h : canStore s a n) : s.storable a n := by
  intro i hi
  obtain ⟨h1, h2, h3⟩ := h i (List.mem_range.2 hi)
  exact ⟨h1, h2, by simp [h3]⟩

theorem one_canStore (w : Word) (n : Nat) (hn : n ≤ 4) : canStore (one w) 0x100 n := by
  intro i hi
  have := List.mem_range.1 hi
  rcases (by omega : i = 0 ∨ i = 1 ∨ i = 2 ∨ i = 3) with h | h | h | h <;> subst h <;> exact ⟨rfl, rfl, rfl⟩

/-- STW .D2 A1,*+B14[1] and the state it runs in. -/
def wStw15 : Word := 0b0000_00001_000000000000001_0_111_11_0_0
def iStw15 : OpsMem15 := { cond := .always, fromB15 := false, side := .a, data := 1, offset := 1 }
def far : State := start [wStw15] [(.a, 1, 5), (.b, 14, 0x100)]

theorem far_quiet : far.Quiet := by
  constructor
  case none => exact (by decide : lowestSet (candidates 0 1) = none)
  all_goals rfl

theorem far_canStore (n : Nat) (hn : n ≤ 4) : canStore far 0x104 n := by
  intro i hi
  have := List.mem_range.1 hi
  rcases (by omega : i = 0 ∨ i = 1 ∨ i = 2 ∨ i = 3) with h | h | h | h <;> subst h <;> exact ⟨rfl, rfl, rfl⟩

theorem test_witness_StoreStepOfTheLongForm :
    far.Quiet ∧ far.fetchWord far.pc = .ok wStw15 ∧ wStw15.getLsbD 0 = false ∧ decode wStw15 = .ok (.stw15 iStw15)
      ∧ far.holds iStw15.cond = true ∧ far.accessAddress15 iStw15 2 = 0x104 ∧ far.storable 0x104 4
      ∧ (after (step far)).map (fun t => (t.mem.read 0x104, t.reg .b 14, t.pc)) = some (some 5, 0x100, 4) :=
  ⟨far_quiet, rfl, rfl, rfl, rfl, rfl, storable_of_canStore (far_canStore 4 (by omega)), by decide⟩

theorem test_witness_StoreStepChangesItsBytesAndBaseOnly :
    (one wStw).Quiet ∧ (one wStw).fetchWord (one wStw).pc = .ok wStw ∧ decode wStw = .ok (.stw iStw)
      ∧ (one wStw).holds iStw.cond = true ∧ (one wStw).addrMode iStw.unit iStw.base ≠ 3
      ∧ (one wStw).accessAddress iStw 2 = 0x100 ∧ (one wStw).storable 0x100 4
      ∧ (one wStw).accessAddress iStw 0 % 1 = 0 ∧ (one wStw).accessAddress iStw 1 % 2 = 0
      ∧ (one wStw).storable 0x100 1 ∧ (one wStw).storable 0x100 2 :=
  ⟨one_quiet _, rfl, rfl, rfl, by decide, rfl, storable_of_canStore (one_canStore _ 4 (by omega)), rfl, rfl,
    storable_of_canStore (one_canStore _ 1 (by omega)), storable_of_canStore (one_canStore _ 2 (by omega))⟩

/-- Base A4 in the linear mode and in the reserved one. -/
theorem test_witness_AddressArithmetic :
    State.reset.addrMode .a 4 ≠ 3 ∧ ({ State.reset with amr := 3 } : State).addrMode .a 4 = 3 := by decide

/-- The constants on either side of the limit. -/
theorem test_witness_UnsignedCompares : (15#5).toNat < 16 ∧ 16 ≤ (16#5).toNat := by decide

/-- One bit, all bits, and an empty field; a field register at its limit, beyond it, and with csta above cstb. -/
theorem test_witness_ClearAndSetBitFields :
    (31#5).toNat ≤ (31#5).toNat ∧ (0#5).toNat ≤ (31#5).toNat ∧ (0#5).toNat < (1#5).toNat
      ∧ (1023 < 2 ^ 10 ∧ 1023 / 2 ^ 5 ≤ 1023 % 2 ^ 5) ∧ 2 ^ 10 ≤ 1024 ∧ 32 % 2 ^ 5 < 32 / 2 ^ 5 := by decide

theorem test_witness_ExtractBitFields : 1023 < 2 ^ 10 ∧ 2 ^ 10 ≤ 1024 := by decide

theorem test_witness_ShiftsWithAndWithoutSaturation :
    (start [] [(.a, 1, 31)]).reg .a 1 = 31 ∧ (start [] [(.a, 1, 32)]).reg .a 1 = 32 := by decide

/-- HPEINT with INT15 pending and enabled, and with none; the addresses at the edges of the refused ranges. -/
theorem test_witness_ReadingControlRegisters :
    (let s : State := { State.reset with ifr := 0x8000, ier := 0x8003 }
     (∀ k ∈ [1, 4, 5, 6, 7, 8, 9, 10, 11, 12, 13, 14, 15], k < 15 → (s.ifr.getLsbD k && s.ier.getLsbD k) = false)
       ∧ 15 ∈ [1, 4, 5, 6, 7, 8, 9, 10, 11, 12, 13, 14, 15] ∧ (s.ifr.getLsbD 15 && s.ier.getLsbD 15) = true)
    ∧ (∀ m ∈ [1, 4, 5, 6, 7, 8, 9, 10, 11, 12, 13, 14, 15],
        (State.reset.ifr.getLsbD m && State.reset.ier.getLsbD m) = false)
    ∧ ([3, 8, 15, 17, 31].map fun a => faultOf (exec (.mvcRead (opsB 1 a 0)) State.reset))
      = List.replicate 5 (some .badControlRegister) := by decide

/-- A legal write of CSR with SAT = 0 and with SAT = 1, a reserved PWRD, and an address without a register. -/
theorem test_witness_WritingControlRegisters :
    ([0x2400, 0x4600, 0x6800, 0x7200].map fun v => (after (exec (.mvcWrite (opsB 1 1 0))
      (start [] [(.b, 1, v)]))).isSome) = List.replicate 4 true
    ∧ faultOf (exec (.mvcWrite (opsB 1 1 0)) (start [] [(.b, 1, 0x0400)])) = some .reservedPowerDown
    ∧ faultOf (exec (.mvcWrite (opsB 8 1 0)) State.reset) = some .badControlRegister
    ∧ faultOf (exec (.mvcWrite (opsB 31 1 0)) State.reset) = some .badControlRegister := by decide

theorem test_witness_NopAndIdleAskForAHold :
    State.reset.e1.hold = .count 0 ∧ (State.reset.putHold .idle).e1.hold = .idle
      ∧ (after (exec (.nop 7) State.reset)).map (fun t => t.e1.hold) = some (.count 7)
      ∧ (after (exec .nop9 (State.reset.putHold .idle))).map (fun t => t.e1.hold) = some .idle := by decide

/-- A taken and an untaken branch of each kind: 8 is a word address, [A1] is false. -/
theorem test_witness_BranchesCompleteInE1 :
    (let s : State := { start [] [(.b, 3, 8)] with irp := 8, nrp := 0xFFFFFFFC }
     s.holds .always = true ∧ s.holds (.nonzero .a1) = false ∧ s.e1.branch = none ∧ (s.reg .b 3).toNat % 4 = 0
       ∧ s.irp.toNat % 4 = 0 ∧ s.nrp.toNat % 4 = 0
       ∧ (after (exec (.bDisp { cond := .always, side := .a, cst := 0x1FFFFF }) s)).map (fun t => t.e1.branch)
        = some (some 0xFFFFFFFC)) := by decide

/-- Targets 1, 2 and 3 past a word, and a second taken branch. -/
theorem test_witness_BranchFaults :
    (let s (n : Word) : State := { start [] [(.b, 3, n)] with irp := n, nrp := n }
     ([1, 2, 3].all fun n => faultOf (exec (.bReg (opsB 0 3 0)) (s n)) == some .misalignedBranchTarget
        && (s n).irp.toNat % 4 != 0 && (s n).nrp.toNat % 4 != 0) = true
     ∧ faultOf (exec (.bReg (opsB 0 3 0)) { s 8 with e1 := { branch := some 4 } }) = some .doubleBranch
     ∧ ({ s 8 with e1 := { branch := some 4 } } : State).e1.branch ≠ none) := by decide

/-- The word form at 100h, and the last word of the address space over B14. -/
theorem test_witness_StoresOfBothForms :
    (one wStw).addrMode iStw.unit iStw.base ≠ 3 ∧ (one wStw).accessAddress iStw 2 % 4 = 0
      ∧ (one wStw).storable ((one wStw).accessAddress iStw 2) 4
      ∧ (after (exec (.stw15 { cond := .always, fromB15 := false, side := .a, data := 1, offset := 0x7FFF })
        (start [] [(.b, 14, 0xFFFE0000), (.a, 1, 0x01020304)]))).map (fun t => t.e1.stores)
        = some [(0xFFFFFFFC, 4), (0xFFFFFFFD, 3), (0xFFFFFFFE, 2), (0xFFFFFFFF, 1)] :=
  ⟨by decide, rfl, storable_of_canStore (one_canStore _ 4 (by omega)), by decide⟩

/-- Four bytes at 100h, loaded as a word in both byte orders. -/
def loaded (little : Bool) : State :=
  { withBytes (one wAdd) [(0x100, 1), (0x101, 2), (0x102, 3), (0x103, 4)] with
    csr := if little then 0x100 else 0 }

theorem test_witness_LoadsOfBothForms :
    (∀ j ∈ List.range 4, (loaded true).checkData (0x100 + j) = .ok ()
      ∧ (loaded true).mem.read (0x100 + j) = some (BitVec.ofNat 8 (j + 1)))
    ∧ (loaded true).accessAddress iStw 2 = 0x100
    ∧ ([true, false].map fun e => (after (exec (.ldw iStw) (loaded e))).map (fun t => t.e1.late.map (·.write.value)))
      = [some [0x04030201], some [0x01020304]] :=
  ⟨by
    intro j hj
    have := List.mem_range.1 hj
    rcases (by omega : j = 0 ∨ j = 1 ∨ j = 2 ∨ j = 3) with h | h | h | h <;> subst h <;> exact ⟨rfl, rfl⟩, rfl, by decide⟩

/-- Each stop: the reserved mode, an odd word address, nothing mapped, a peripheral, a byte without a value, program text
and a second store of the packet. -/
theorem test_witness_StopsOfLoadsAndStores :
    (let all : List Config.Region := [{ base := 0, size := 0x1000, space := .unified }]
     let per : List Config.Region := [{ base := 0, size := 0x1000, space := .peripheral }]
     let at4 : List RegIs := [(.a, 4, 0xFFC)]
     [exec (.ldw iStw) { mapped [] all at4 with amr := 3 }, exec (.ldw iStw) (mapped [] all [(.a, 4, 0xFFD)]),
      exec (.ldw iStw) (mapped [] all [(.a, 4, 0x1000)]), exec (.ldw iStw) (mapped [] all at4),
      exec (.stw iStw) (mapped [{ base := 0xFFF, size := 1 }] all at4),
      exec (.stw iStw) { mapped [] all at4 with e1 := { stores := [(0xFFF, 0)] } }].map faultOf
      = [some .reservedAddressingMode, some .misalignedAccess, some .unmappedAccess, some .uninitialisedMemory,
        some .storeToProgram, some .storeStoreConflict]
     ∧ refusedOf (exec (.stw iStw) (mapped [] per at4)) = some .peripheralAccess) := by decide

end Sys2Proof.Tests
end

section
/-! SUPPORT. What an instruction in E1 may do to the state: a chain of the shared operations, each open only to the
instructions that the spec names for it (10_state.md R58, R59, 43_load_store.md R550, 44_branch.md R604). -/

namespace Sys2Proof.Machine

/-- `t` is reached from `s` by operations that instruction `i` is entitled to. -/
inductive MakesEffects (i : Instr) (s : State) : State → Prop where
  | nothing : MakesEffects i s s
  | putReg {t : State} {d : Side} {f : BitVec 5} {v : Word} :
      MakesEffects i s t → MakesEffects i s (t.putReg d f v)
  | putLate {t : State} {d : Side} {f : BitVec 5} {v : Word} {n : Nat} :
      1 ≤ n ∧ n ≤ 4 → MakesEffects i s t → MakesEffects i s (t.putLate d f v n)
  | drawn {t : State} : MakesEffects i s t → MakesEffects i s t.drawn
  | requestSat {t : State} {n : Nat} :
      i.maySetSat = true → 1 ≤ n ∧ n ≤ 2 → MakesEffects i s t → MakesEffects i s (t.requestSat n)
  | putCtrl {t : State} {c : CtrlWrite} :
      i.writesControl = true → c.legal = true → MakesEffects i s t → MakesEffects i s (t.putCtrl c)
  | putHold {t : State} {g : Hold} : g.small = true → MakesEffects i s t → MakesEffects i s (t.putHold g)
  | memWrite {t u : State} {w : Width} {a v : Word} :
      i.use.storeFile ≠ none → t.memWrite w a v = .ok u → MakesEffects i s t → MakesEffects i s u
  | noteBranch {t : State} : i.isBranch = true → MakesEffects i s t → MakesEffects i s t.noteBranch
  | takeBranch {t u : State} {target : Word} :
      i.isBranch = true → t.takeBranch target = .ok u → MakesEffects i s t → MakesEffects i s u.noteBranch

namespace MakesEffects

variable {i : Instr} {s t u : State}

/-! ## The shared forms of the meanings -/

/-- A conditional does what it guards, or nothing. -/
theorem ofCond {c : Cond} (h : s.onCond c (.next u) = .next t) (hu : MakesEffects i s u) : MakesEffects i s t := by
  rcases onCond_next.mp h with ⟨-, hk⟩ | ⟨-, rfl⟩
  · cases hk; exact hu
  · exact .nothing

theorem putLong {d : Side} {f : BitVec 5} {v : Long} (h : MakesEffects i s t) : MakesEffects i s (t.putLong d f v) :=
  h.putReg.putReg

theorem satIf {c : Bool} {n : Nat} (hi : i.maySetSat = true) (hn : 1 ≤ n ∧ n ≤ 2) (h : MakesEffects i s t) :
    MakesEffects i s (satIf t c n) := by
  unfold Machine.satIf
  split
  · exact h.requestSat hi hn
  · exact h

theorem updateBase {o : OpsMem} {v : Word} (h : MakesEffects i s t) : MakesEffects i s (updateBase t o v) := by
  unfold Machine.updateBase
  split
  · exact h.putReg
  · exact h

theorem ofResult {c : Cond} {d : Side} {f : BitVec 5} {v : Word} (h : s.onCond c (.next (s.putReg d f v)) = .next t) :
    MakesEffects i s t :=
  ofCond h nothing.putReg

theorem ofFreeResult {c : Cond} {d : Side} {f : BitVec 5} {v : Word}
    (h : s.onCond c (.next (s.drawn.putReg d f v)) = .next t) : MakesEffects i s t :=
  ofCond h nothing.drawn.putReg

theorem ofLongResult {c : Cond} {d : Side} {f : BitVec 5} {v : Long}
    (h : s.onCond c (.next (s.putLong d f v)) = .next t) : MakesEffects i s t :=
  ofCond h nothing.putLong

theorem ofLateResult {c : Cond} {d : Side} {f : BitVec 5} {v : Word}
    (h : s.onCond c (.next (s.putLate d f v 1)) = .next t) : MakesEffects i s t :=
  ofCond h (nothing.putLate (by decide))

theorem ofSat32 {c : Cond} {d : Side} {f : BitVec 5} {v : Int} (hi : i.maySetSat = true)
    (h : s.onCond c (.next (putSat32 s d f v)) = .next t) : MakesEffects i s t :=
  ofCond h (nothing.putReg.satIf hi (by decide))

theorem ofSat40 {c : Cond} {d : Side} {f : BitVec 5} {v : Int} (hi : i.maySetSat = true)
    (h : s.onCond c (.next (putSat40 s d f v)) = .next t) : MakesEffects i s t :=
  ofCond h (nothing.putLong.satIf hi (by decide))

theorem ofSatLate {c : Cond} {d : Side} {f : BitVec 5} {v : Int} (hi : i.maySetSat = true)
    (h : s.onCond c (.next (putSatLate s d f v)) = .next t) : MakesEffects i s t :=
  ofCond h ((nothing.putLate (by decide)).satIf hi (by decide))

/-- SSHL by a register: a saturated result, or a free one with a free request. -/
theorem ofSshl {o : Ops3} (hi : i.maySetSat = true) (h : execSshl o s = .next t) : MakesEffects i s t := by
  refine ofCond h ?_
  split
  · exact nothing.drawn.putReg.satIf hi (by decide)
  · exact nothing.putReg.satIf hi (by decide)

theorem ofAddressArith {o : OpsD} {w : Width} {off : Word} {add : Bool} (h : addressArith s o w off add = .next t) :
    MakesEffects i s t := by
  obtain ⟨-, rfl⟩ | ⟨-, v, -, rfl⟩ := addressArith_next h
  · exact nothing
  · exact nothing.putReg

theorem ofMvcRead {o : Ops3} (h : execMvcRead o s = .next t) : MakesEffects i s t := by
  obtain ⟨-, rfl⟩ | ⟨-, v, -, rfl⟩ := execMvcRead_next h
  · exact nothing
  · exact nothing.putReg

theorem ofMvcWrite {o : Ops3} (hi : i.writesControl = true) (h : execMvcWrite o s = .next t) : MakesEffects i s t := by
  rcases onCond_next.mp h with ⟨-, h⟩ | ⟨-, rfl⟩
  · obtain ⟨c, hc, rfl | rfl⟩ := writeCtrl_ok (outcome_next.mp h)
    · exact nothing.putCtrl hi hc
    · exact nothing.drawn.putCtrl hi hc
  · exact nothing

theorem ofLoad {o : OpsMem} {w : Width} {ext : Word → Word} (h : load s o w ext = .next t) : MakesEffects i s t := by
  obtain ⟨-, rfl⟩ | ⟨-, new, v, -, -, rfl⟩ := load_next h
  · exact nothing
  · exact nothing.updateBase.putLate (by decide)

theorem ofLoad15 {o : OpsMem15} {w : Width} {ext : Word → Word} (h : load15 s o w ext = .next t) :
    MakesEffects i s t := by
  obtain ⟨-, rfl⟩ | ⟨-, v, -, rfl⟩ := load15_next h
  · exact nothing
  · exact nothing.putLate (by decide)

theorem ofStore {o : OpsMem} {w : Width} (hi : i.use.storeFile ≠ none) (h : store s o w = .next t) :
    MakesEffects i s t := by
  obtain ⟨-, rfl⟩ | ⟨-, new, u, -, hu, rfl⟩ := store_next h
  · exact nothing
  · exact (nothing.memWrite hi hu).updateBase

theorem ofStore15 {o : OpsMem15} {w : Width} (hi : i.use.storeFile ≠ none) (h : store15 s o w = .next t) :
    MakesEffects i s t := by
  obtain ⟨-, rfl⟩ | ⟨-, hu⟩ := store15_next h
  · exact nothing
  · exact nothing.memWrite hi hu

theorem ofBranch {c : Cond} {target : Word} (hi : i.isBranch = true)
    (h : branch s c (s.takeBranch target) = .next t) : MakesEffects i s t := by
  obtain ⟨-, u, hu, rfl⟩ | ⟨-, rfl⟩ := branch_next h
  · exact nothing.takeBranch hi hu
  · exact nothing.noteBranch hi

/-- A return: its branch and its write of a control register (R615, R620). -/
theorem ofReturn {c : Cond} {target : Word} {w : CtrlWrite} {taken : Except Stop State} (hi : i.isBranch = true)
    (hc : i.writesControl = true) (hw : w.legal = true) (h : branch s c taken = .next t)
    (hu : ∀ u, taken = .ok u → ∃ v, s.takeBranch target = .ok v ∧ u = v.putCtrl w) : MakesEffects i s t := by
  obtain ⟨-, u, ht, rfl⟩ | ⟨-, rfl⟩ := branch_next h
  · obtain ⟨v, hv, rfl⟩ := hu u ht
    exact (nothing.takeBranch hi hv).putCtrl hc hw
  · exact nothing.noteBranch hi

end MakesEffects

/-! ## Every instruction -/

open MakesEffects in
/-- An instruction that answers has done nothing but what it is entitled to. -/
theorem exec_makesEffects {i : Instr} {s t : State} (h : exec i s = .next t) : MakesEffects i s t := by
  cases i with
  | addL o | addLCst o | subL o | subLX o | subLCst o | subc o | abs o | andL o | andLCst o | orL o | orLCst o | xorL o
  | xorLCst o | lmbd o | lmbdCst o | norm o | normLong o | addS o | addSCst o | subS o | subSCst o | add2 o | sub2 o
  | andS o | andSCst o | orS o | orSCst o | xorS o | xorSCst o | shl o | shlCst o | shr o | shrCst o | shru o
  | shruCst o | cmpeq o | cmpeqCst o | cmpeqLong o | cmpeqCstLong o | cmpgt o | cmpgtCst o | cmpgtLong o
  | cmpgtCstLong o | cmpgtu o | cmpgtuLong o | cmplt o | cmpltCst o | cmpltLong o | cmpltCstLong o | cmpltu o
  | cmpltuLong o | addD o | addDCst o | subD o | subDCst o | addk o | mvk o | mvkh o | mvkl o | mvklh o | extu o | ext o
  | mvL o | mvS o | mvD o | negL o | negS o | notL o | notS o | zeroL o | zeroS o | zeroD o => exact ofResult h
  | addLToLong o | addLLong o | addLCstLong o | addu o | adduLong o | subLToLong o | subLXToLong o | subLCstLong o
  | subu o | subuX o | absLong o | shlLong o | shlToLong o | shlCstLong o | shlCstToLong o | shrLong o | shrCstLong o
  | shruLong o | shruCstLong o | mvLLong o | negLLong o | zeroLLong o => exact ofLongResult h
  | cmpgtuCst o | cmpgtuCstLong o | cmpltuCst o | cmpltuCstLong o | setReg o | clrReg o | extReg o | extuReg o | set o
  | clr o =>
    simp only [exec, execCmpgtuCst, execCmpgtuCstLong, execCmpltuCst, execCmpltuCstLong, execSetReg, execClrReg,
      execExtReg, execExtuReg, execSet, execClr] at h
    split at h
    · exact ofFreeResult h
    · exact ofResult h
  | mpy o | mpyCst o | mpyu o | mpyus o | mpysu o | mpysuCst o | mpyh o | mpyhu o | mpyhus o | mpyhsu o | mpyhl o
  | mpyhlu o | mpyhuls o | mpyhslu o | mpylh o | mpylhu o | mpyluhs o | mpylshu o => exact ofLateResult h
  | sadd o | saddCst o | ssub o | ssubX o | ssubCst o | sat o | sshlCst o => exact ofSat32 rfl h
  | saddLong o | saddCstLong o | ssubCstLong o => exact ofSat40 rfl h
  | smpy o | smpyh o | smpyhl o | smpylh o => exact ofSatLate rfl h
  | sshl o => exact ofSshl rfl h
  | addab o | addabCst o | addah o | addahCst o | addaw o | addawCst o | subab o | subabCst o | subah o | subahCst o
  | subaw o | subawCst o => exact ofAddressArith h
  | mvcRead o => exact ofMvcRead h
  | mvcWrite o => exact ofMvcWrite rfl h
  | ldhu o | ldbu o | ldb o | ldh o | ldw o => exact ofLoad h
  | ldhu15 o | ldbu15 o | ldb15 o | ldh15 o | ldw15 o => exact ofLoad15 h
  | stb o | sth o | stw o => exact ofStore (Option.some_ne_none _) h
  | stb15 o | sth15 o | stw15 o => exact ofStore15 (Option.some_ne_none _) h
  | bDisp o | bReg o => exact ofBranch rfl h
  | bIrp o => exact ofReturn rfl rfl rfl h fun _ => returnFromInterrupt_ok
  | bNrp o => exact ofReturn rfl rfl rfl h fun _ => returnFromNmi_ok
  | nop src =>
    cases h
    exact nothing.putHold (decide_eq_true (Nat.le_of_lt src.isLt))
  | nop9 | idle => cases h; exact nothing.putHold rfl

/-- The four branches. -/
theorem isBranch_iff {i : Instr} :
    i.isBranch = true ↔ (∃ o, i = .bDisp o) ∨ (∃ o, i = .bReg o) ∨ (∃ o, i = .bIrp o) ∨ ∃ o, i = .bNrp o := by
  cases i <;> simp [Instr.isBranch]

/-- A branch that answers is noted, taken or not (44_branch.md R604). -/
theorem exec_branchSeen {i : Instr} {s t : State} (hi : i.isBranch = true) (h : exec i s = .next t) :
    t.e1.branchSeen = true := by
  have noted {c : Cond} {taken : Except Stop State} (h : branch s c taken = .next t) : t.e1.branchSeen = true := by
    obtain ⟨-, u, -, rfl⟩ | ⟨-, rfl⟩ := branch_next h <;> rfl
  rcases isBranch_iff.mp hi with ⟨o, rfl⟩ | ⟨o, rfl⟩ | ⟨o, rfl⟩ | ⟨o, rfl⟩ <;> exact noted h

/-! ## What the chain leaves -/

namespace MakesEffects

variable {i : Instr} {s t : State}

theorem addsEffects (h : MakesEffects i s t) : AddsEffects s t := by
  induction h with
  | nothing => exact .refl s
  | putReg _ ih => exact ih.trans (.putReg ..)
  | putLate _ _ ih => exact ih.trans (.putLate ..)
  | drawn _ ih => exact ih.trans (.drawn _)
  | requestSat _ _ _ ih => exact ih.trans (.requestSat ..)
  | putCtrl _ _ _ ih => exact ih.trans (.putCtrl ..)
  | putHold _ _ ih => exact ih.trans (.putHold ..)
  | memWrite _ hu _ ih => exact ih.trans (.memWrite hu)
  | noteBranch _ _ ih => exact ih.trans (.noteBranch _)
  | takeBranch _ hu _ ih => exact (ih.trans (.takeBranch hu)).trans (.noteBranch _)

theorem ok (h : MakesEffects i s t) (hs : s.e1.Ok) : t.e1.Ok := by
  induction h with
  | nothing => exact hs
  | putReg _ ih => exact ih.putReg ..
  | putLate hn _ ih => exact ih.putLate _ _ _ _ hn.1 hn.2
  | drawn _ ih => exact ih
  | requestSat _ hn _ ih => exact ih.requestSat _ hn.1 hn.2
  | putCtrl _ hc _ ih => exact ih.putCtrl _ hc
  | putHold hg _ ih => exact ih.putHold _ hg
  | memWrite _ hu _ ih => exact ih.memWrite hu
  | noteBranch _ _ ih => exact ih.noteBranch
  | takeBranch _ hu _ ih => exact ih.takeBranch hu

theorem stores_kept (h : MakesEffects i s t) (hi : i.use.storeFile = none) : t.e1.stores = s.e1.stores := by
  induction h with
  | nothing => rfl
  | memWrite hi' => exact absurd hi hi'
  | takeBranch _ hu _ ih => obtain ⟨-, -, rfl⟩ := takeBranch_ok hu; exact ih
  | putReg _ ih | putLate _ _ ih | drawn _ ih | requestSat _ _ _ ih | putCtrl _ _ _ ih | putHold _ _ ih
  | noteBranch _ _ ih => exact ih

theorem ctrl_kept (h : MakesEffects i s t) (hi : i.writesControl = false) : t.e1.ctrl = s.e1.ctrl := by
  induction h with
  | nothing => rfl
  | putCtrl hi' => simp [hi] at hi'
  | memWrite _ hu _ ih => obtain ⟨-, -, -, -, rfl⟩ := memWrite_ok hu; exact ih
  | takeBranch _ hu _ ih => obtain ⟨-, -, rfl⟩ := takeBranch_ok hu; exact ih
  | putReg _ ih | putLate _ _ ih | drawn _ ih | requestSat _ _ _ ih | putHold _ _ ih | noteBranch _ _ ih => exact ih

theorem sat_kept (h : MakesEffects i s t) (hi : i.maySetSat = false) : t.e1.sat = s.e1.sat := by
  induction h with
  | nothing => rfl
  | requestSat hi' => simp [hi] at hi'
  | memWrite _ hu _ ih => obtain ⟨-, -, -, -, rfl⟩ := memWrite_ok hu; exact ih
  | takeBranch _ hu _ ih => obtain ⟨-, -, rfl⟩ := takeBranch_ok hu; exact ih
  | putReg _ ih | putLate _ _ ih | drawn _ ih | putCtrl _ _ _ ih | putHold _ _ ih | noteBranch _ _ ih => exact ih

theorem branch_kept (h : MakesEffects i s t) (hi : i.isBranch = false) :
    t.e1.branch = s.e1.branch ∧ t.e1.branchSeen = s.e1.branchSeen := by
  induction h with
  | nothing => exact ⟨rfl, rfl⟩
  | noteBranch hi' | takeBranch hi' => simp [hi] at hi'
  | memWrite _ hu _ ih => obtain ⟨-, -, -, -, rfl⟩ := memWrite_ok hu; exact ih
  | putReg _ ih | putLate _ _ ih | drawn _ ih | requestSat _ _ _ ih | putCtrl _ _ _ ih | putHold _ _ ih => exact ih

end MakesEffects

/-- Settles O15: the chain of each instruction holds only the operations it is entitled to. -/
theorem onlyTheNamedInstructionsHaveTheEffect : Obligations.OnlyTheNamedInstructionsHaveTheEffect := by
  intro i s t h
  have hm := exec_makesEffects h
  exact ⟨hm.stores_kept, hm.ctrl_kept, hm.sat_kept, hm.branch_kept, fun hi => exec_branchSeen hi h⟩

/-! ## A whole packet -/

/-- What does not look at the effects of E1 or the count of draws is as it was. -/
theorem AddsEffects.same {α : Type} {s t : State} (h : AddsEffects s t) (g : State → α)
    (hg : ∀ (x : State) (e : Effects) (k : Nat), g { x with e1 := e, freeIdx := k } = g x) : g t = g s := by
  rw [h.rest]
  exact hg ..

/-- A packet only adds effects, and such as a packet can have (70_reset_and_hazards.md R801, R802). -/
theorem runPacket_addsEffects {is : List Instr} {s t : State} (h : runPacket is s = .next t) :
    AddsEffects s t ∧ (s.e1.Ok → t.e1.Ok) := by
  refine runPacket_induct (fun s t => AddsEffects s t ∧ (s.e1.Ok → t.e1.Ok)) (fun s => ⟨.refl s, id⟩) ?_ ?_ is s t h
  · rintro s t u ⟨hst, okst⟩ ⟨htu, oktu⟩
    exact ⟨hst.trans htu, oktu ∘ okst⟩
  · intro i s t h
    exact ⟨(exec_makesEffects h).addsEffects, (exec_makesEffects h).ok⟩

end Sys2Proof.Machine
end

section
/-! SUPPORT. What reset leaves (10_state.md R80), and the event Reset (60_exceptions.md R745). -/

namespace Sys2Proof.Machine

/-! ## Fields of a word as numbers -/

/-- A field of a word, as the statements write it. -/
theorem div_mod_eq_extract (v : Word) (start len : Nat) :
    v.toNat / 2 ^ start % 2 ^ len = (v.extractLsb' start len).toNat := by
  rw [BitVec.extractLsb'_toNat, Nat.shiftRight_eq_div_pow]

/-- The highest byte of a word. -/
theorem div_eq_extract (v : Word) : v.toNat / 2 ^ 24 = (v.extractLsb' 24 8).toNat := by
  rw [← div_mod_eq_extract, Nat.mod_eq_of_lt (by have := v.isLt; omega)]

/-- The low bits of a word. -/
theorem mod_eq_extract (v : Word) (len : Nat) : v.toNat % 2 ^ len = (v.extractLsb' 0 len).toNat := by
  rw [← div_mod_eq_extract, Nat.pow_zero, Nat.div_one]

/-- The address of the interrupt service table. -/
theorem toNat_tableBase (b : BitVec 22) : (b ++ 0#10).toNat = b.toNat * 1024 := by
  rw [BitVec.toNat_append, Nat.shiftLeft_eq]; simp

/-- Below the base of the table stands the offset of an entry, a multiple of 4. -/
theorem entryAddress_aligned (s : State) (m : BitVec 4) : (s.entryAddress m).extractLsb' 0 2 = 0 := by
  unfold State.entryAddress
  repeat refine (BitVec.extractLsb'_append_eq_of_add_le (by omega)).trans ?_
  rfl

/-! ## The reset state -/

/-- EN after reset is the byte order launched with (20_memory.md R150). -/
theorem csrReset_en (r : BitVec 8) (b : Bool) : (csrReset r b).getLsbD 8 = b := by
  have h := congrArg (fun v => BitVec.getLsbD v 8) (csrReset_low r b)
  simp only [BitVec.getLsbD_extractLsb'] at h
  refine Eq.trans (by simp) (h.trans ?_)
  cases b <;> rfl

variable (launch : Config.Launch) (revision : BitVec 8) (little : Bool)

theorem resetWith_entryAddress :
    (State.resetWith launch revision little).entryAddress 0 = launch.istbReset ++ 0#10 := rfl

/-- Right after reset no interrupt is pending. -/
theorem resetWith_hpeint : (State.resetWith launch revision little).hpeint = 0 :=
  show (lowestSet (candidates 0 1)).getD 0 = 0 by decide

theorem resetWith_pc_aligned : (State.resetWith launch revision little).pc.extractLsb' 0 2 = 0 :=
  entryAddress_aligned (State.resetWith launch revision little) 0

theorem resetWith_controlInv : (State.resetWith launch revision little).ControlInv := by
  have hier : (1 : Word) &&& 0xFFFF000D = 1 := by decide
  refine ⟨BitVec.zero_and, csrReset_cpuId .., ?_, .inl rfl, BitVec.zero_and, hier⟩
  simp only [State.resetWith, csrReset_pwrd]
  decide

theorem resetWith_pendingInv : (State.resetWith launch revision little).PendingInv := by
  simp [State.PendingInv, State.resetWith, Hold.small]

theorem resetWith_interruptInv : (State.resetWith launch revision little).InterruptInv :=
  ⟨BitVec.zero_and, BitVec.zero_and, BitVec.zero_and, Nat.zero_le _, .inl rfl⟩

theorem resetWith_inv : (State.resetWith launch revision little).Inv :=
  ⟨⟨rfl, rfl⟩, resetWith_controlInv .., resetWith_pendingInv .., resetWith_interruptInv .., resetWith_pc_aligned ..,
    rfl⟩

/-- Settles O1: every part of the invariant holds of a reset state, and CSR's part by its fields. -/
theorem resetSatisfiesInvariant : Obligations.ResetSatisfiesInvariant :=
  ⟨resetWith_inv .., resetWith_inv⟩

/-- The low half of CSR right after reset, as a number. -/
theorem csrReset_mod : (csrReset revision little).toNat % 2 ^ 16 = if little then 0x0100 else 0 := by
  rw [mod_eq_extract, csrReset_low]
  cases little <;> rfl

/-- Settles O3, the rows of the table one by one. -/
theorem resetLeavesTheStatedValues : Obligations.ResetLeavesTheStatedValues := by
  intro launch revision little s
  have hcpu : s.csr.toNat / 2 ^ 24 = 0 := by
    rw [div_eq_extract]; exact congrArg BitVec.toNat (csrReset_cpuId revision little)
  have hrev : s.csr.toNat / 2 ^ 16 % 2 ^ 8 = revision.toNat := by
    rw [div_mod_eq_extract]; exact congrArg BitVec.toNat (csrReset_revision revision little)
  have hpc : s.pc.toNat = launch.istbReset.toNat * 1024 := toNat_tableBase _
  have histp : s.readCtrl 5 = .ok (BitVec.ofNat 32 (launch.istbReset.toNat * 1024)) := by
    rw [← hpc, BitVec.ofNat_toNat, BitVec.setWidth_eq]
    change Except.ok (s.entryAddress s.hpeint) = _
    rw [resetWith_hpeint, resetWith_entryAddress]
    rfl
  exact ⟨hpc, rfl, hcpu, hrev, csrReset_mod .., rfl, rfl, rfl, rfl, histp, rfl, rfl, rfl, rfl, rfl, rfl, rfl, rfl⟩

/-! ## The event Reset -/

/-- A cycle in which Reset comes does nothing else. -/
theorem step_reset {s : State} (h : s.envNow.reset = true) : step s = .next s.takeEnv.resetEvent := if_pos h

/-- Reset keeps the byte order (log 34). -/
theorem resetEvent_littleEndian (s : State) : s.resetEvent.littleEndian = s.littleEndian :=
  csrReset_en ..

/-- Reset keeps the revision (log 34). -/
theorem resetEvent_revision (s : State) : s.resetEvent.csr.extractLsb' 16 8 = s.csr.extractLsb' 16 8 :=
  csrReset_revision ..

/-- The event leaves the reset state but for memory and what is no part of the invariant. -/
theorem resetEvent_inv {s : State} (h : s.MemoryInv) : s.resetEvent.Inv := by
  obtain ⟨-, hcontrol, hpending, hinterrupt, hpc, he⟩ :=
    resetWith_inv s.launch (s.csr.extractLsb' 16 8) s.littleEndian
  exact ⟨h, hcontrol, hpending, hinterrupt, hpc, he⟩

/-- Settles O4: a step in which Reset comes is the event alone. -/
theorem resetEventEmptiesTheHiddenState : Obligations.ResetEventEmptiesTheHiddenState := by
  intro s h
  have hrev : s.takeEnv.resetEvent.csr.toNat / 2 ^ 16 % 2 ^ 8 = s.csr.toNat / 2 ^ 16 % 2 ^ 8 := by
    rw [div_mod_eq_extract, div_mod_eq_extract, resetEvent_revision, State.takeEnv_csr]
  exact ⟨_, step_reset h, rfl, rfl, rfl, rfl, rfl, rfl, rfl, rfl, rfl, toNat_tableBase _, rfl, rfl, rfl, rfl,
    csrReset_mod .., hrev, fun _ => rfl, fun _ => rfl, rfl, rfl⟩

/-! ## Register pairs -/

/-- Settles O60: the pair is the low byte of the odd register above the even one, in both directions. -/
theorem registerPairsHoldFortyBits : Obligations.RegisterPairsHoldFortyBits := by
  intro s side field v
  constructor
  · rw [State.long, BitVec.toNat_append, BitVec.toNat_setWidth, ← Nat.shiftLeft_add_eq_or_of_lt (BitVec.isLt _),
      Nat.shiftLeft_eq]
  · have hlow : v.setWidth 32 = BitVec.ofInt 32 v.toNat := by
      rw [BitVec.ofInt_natCast]; rfl
    have hhigh : (v.extractLsb' 32 8).setWidth 32 = BitVec.ofInt 32 ((v.toNat : Int) / 2 ^ 32 % 2 ^ 8) := by
      apply BitVec.eq_of_toNat_eq
      have := v.isLt
      norm_cast
      rw [BitVec.ofInt_natCast, BitVec.toNat_setWidth, BitVec.extractLsb'_toNat, BitVec.toNat_ofNat,
        Nat.shiftRight_eq_div_pow]
    rw [State.putLong, hlow, hhigh]
    rfl

end Sys2Proof.Machine
end

section
/-! SUPPORT. The end of a cycle, register by register: what the packet's control-register writes leave, then SAT, the end
of a power-down and interrupt entry (70_reset_and_hazards.md R804 D). -/

namespace Sys2Proof.Machine

variable {s t u : State} {n : Option Nat} {d : Option (BitVec 4)}

/-! ## Single bits -/

theorem setBit_same {v : Word} {i : Nat} {b : Bool} (hi : i < 32) : (setBit v i b).getLsbD i = b := by
  rw [getLsbD_setBit v i i b hi, if_pos rfl]

theorem setBit_other {v : Word} {i j : Nat} {b : Bool} (hi : i < 32) (h : j ≠ i) :
    (setBit v i b).getLsbD j = v.getLsbD j := by
  rw [getLsbD_setBit v i j b hi, if_neg h]

/-- A bit that a mask keeps. -/
theorem and_mask_bit {v m : Word} {k : Nat} (h : k < 32 → m.getLsbD k = true) : (v &&& m).getLsbD k = v.getLsbD k := by
  rw [BitVec.getLsbD_and]
  by_cases hk : k < 32
  · rw [h hk, Bool.and_true]
  · rw [BitVec.getLsbD_of_ge v k (Nat.le_of_not_lt hk), Bool.false_and]

/-- The bits of CSR that an MVC leaves (10_state.md R64). -/
theorem csr_written_readOnly {c v : Word} {k : Nat} (hk : k = 8 ∨ 16 ≤ k) :
    ((c &&& 0xFFFF0100) ||| (v &&& 0x0000FCFF)).getLsbD k = c.getLsbD k := by
  have kept : ∀ k : Fin 32, k.val = 8 ∨ 16 ≤ k.val → (0xFFFF0100 : Word).getLsbD k = true := by decide
  have masked : ∀ k : Fin 32, k.val = 8 ∨ 16 ≤ k.val → (0x0000FCFF : Word).getLsbD k = false := by decide
  rw [BitVec.getLsbD_or, and_mask_bit fun h => kept ⟨k, h⟩ hk, BitVec.getLsbD_and]
  by_cases h : k < 32
  · rw [masked ⟨k, h⟩ hk, Bool.and_false, Bool.or_false]
  · rw [BitVec.getLsbD_of_ge v k (Nat.le_of_not_lt h), Bool.false_and, Bool.or_false]

/-! ## The packet's control-register writes -/

/-- The state in which the control-register writes of the packet have landed and nothing else of D.2 has. -/
def State.controlled (s : State) : State :=
  s.e1.ctrl.foldl State.applyCtrl s.updateFlags

/-- A value that no write of the packet changes is as the flag update leaves it. -/
theorem controlled_keep {α : Type} (g : State → α) (h : ∀ c ∈ s.e1.ctrl, ∀ x : State, g (x.applyCtrl c) = g x) :
    g s.controlled = g s.updateFlags :=
  applyCtrls_keep g _ h _

/-- A property that the flag update gives and every write of the packet keeps. -/
theorem controlled_induct (P : State → Prop) (start : P s.updateFlags)
    (keep : ∀ c ∈ s.e1.ctrl, ∀ x : State, P x → P (x.applyCtrl c)) : P s.controlled :=
  List.foldlRecOn _ _ start fun x hx c hc => keep c hc x hx

theorem controlled_amr (h : ∀ v, .amr v ∉ s.e1.ctrl) : s.controlled.amr = s.amr :=
  controlled_keep State.amr fun c hc x => by
    cases c with
    | amr v => exact absurd hc (h v)
    | _ => rfl

theorem controlled_istb (h : ∀ v, .istp v ∉ s.e1.ctrl) : s.controlled.istb = s.istb :=
  controlled_keep State.istb fun c hc x => by
    cases c with
    | istp v => exact absurd hc (h v)
    | _ => rfl

theorem controlled_irp (h : ∀ v, .irp v ∉ s.e1.ctrl) : s.controlled.irp = s.irp :=
  controlled_keep State.irp fun c hc x => by
    cases c with
    | irp v => exact absurd hc (h v)
    | _ => rfl

theorem controlled_nrp (h : ∀ v, .nrp v ∉ s.e1.ctrl) : s.controlled.nrp = s.nrp :=
  controlled_keep State.nrp fun c hc x => by
    cases c with
    | nrp v => exact absurd hc (h v)
    | _ => rfl

theorem controlled_ier (h : ∀ v, .ier v ∉ s.e1.ctrl) (h' : .returnNrp ∉ s.e1.ctrl) : s.controlled.ier = s.ier :=
  controlled_keep State.ier fun c hc x => by
    cases c with
    | ier v => exact absurd hc (h v)
    | returnNrp => exact absurd hc h'
    | _ => rfl

theorem controlled_csr (h : ∀ v b, .csr v b ∉ s.e1.ctrl) (h' : .returnIrp ∉ s.e1.ctrl) : s.controlled.csr = s.csr :=
  controlled_keep State.csr fun c hc x => by
    cases c with
    | csr v b => exact absurd hc (h v b)
    | returnIrp => exact absurd hc h'
    | _ => rfl

theorem controlled_power (h : ∀ v b, .csr v b ∉ s.e1.ctrl) : s.controlled.power = s.power :=
  controlled_keep State.power fun c hc x => by
    cases c with
    | csr v b => exact absurd hc (h v b)
    | _ => rfl

/-- B IRP moves GIE alone, so that only a write of CSR reaches SAT. -/
theorem controlled_satBit (h : ∀ v b, .csr v b ∉ s.e1.ctrl) : s.controlled.satBit = s.satBit :=
  controlled_keep State.satBit fun c hc x => by
    cases c with
    | csr v b => exact absurd hc (h v b)
    | returnIrp => exact setBit_other (by decide) (by decide)
    | _ => rfl

/-- EN, REVISION ID and CPU ID are read-only (10_state.md R64). -/
theorem controlled_csr_readOnly {k : Nat} (hk : k = 8 ∨ 16 ≤ k) :
    s.controlled.csr.getLsbD k = s.csr.getLsbD k :=
  controlled_keep (fun x => x.csr.getLsbD k) fun c _ x => by
    cases c with
    | csr v b => exact (setBit_other (by decide) (by omega)).trans (csr_written_readOnly hk)
    | returnIrp => exact setBit_other (by decide) (by omega)
    | _ => rfl

/-- No write clears NMIE (10_state.md R72). -/
theorem controlled_nmie (h : s.nmie = true) : s.controlled.nmie = true :=
  controlled_induct (fun x => x.nmie = true) h fun c _ x hx => by
    cases c with
    | ier v =>
      simp only [State.nmie] at hx
      simp [State.nmie, State.applyCtrl, hx]
    | returnNrp => exact setBit_same (by decide)
    | _ => exact hx

/-- CSR when the SAT requests falling due have set SAT (10_state.md R65). -/
def State.csrLanded (s : State) : Word :=
  if s.pendingSat.any due then setBit s.controlled.csr 9 true else s.controlled.csr

theorem any_due_eq_true (l : List Nat) : l.any due = true ↔ ∃ k ∈ l, k ≤ 1 := by
  simp [due]

theorem any_due_eq_false (l : List Nat) : l.any due = false ↔ ∀ k ∈ l, 1 < k := by
  simp [due]

theorem csrLanded_of_not_due (h : ∀ k ∈ s.pendingSat, 1 < k) : s.csrLanded = s.controlled.csr := by
  rw [State.csrLanded, (any_due_eq_false _).mpr h]; rfl

theorem csrLanded_bit {k : Nat} (hk : k ≠ 9) : s.csrLanded.getLsbD k = s.controlled.csr.getLsbD k := by
  unfold State.csrLanded
  split
  · exact setBit_other (by decide) hk
  · rfl

theorem csrLanded_sat : s.csrLanded.getLsbD 9 = (s.pendingSat.any due || s.controlled.satBit) := by
  unfold State.csrLanded
  cases s.pendingSat.any due with
  | true => rw [if_pos rfl, setBit_same (by decide), Bool.true_or]
  | false => rw [if_neg Bool.false_ne_true, Bool.false_or, State.satBit]

/-! ## The end of a power-down, and interrupt entry -/

theorem countDown_power (m : Nat) (w : Bool) : (s.countDown m w).power = if w then .none else s.power := by
  cases w <;> rfl

theorem countDown_csr (m : Nat) (w : Bool) :
    (s.countDown m w).csr = if w && !s.freeBit then s.csr &&& 0xFFFF03FF else s.csr := by
  cases w with
  | false => rfl
  | true =>
    change (if s.freeBit then s.csr else s.csr &&& 0xFFFF03FF) = _
    cases s.freeBit <;> rfl

/-- The end of a power-down clears no bit outside PWRD. -/
theorem countDown_csr_bit {k : Nat} (m : Nat) (w : Bool) (hk : k < 10 ∨ 16 ≤ k) :
    (s.countDown m w).csr.getLsbD k = s.csr.getLsbD k := by
  have kept : ∀ k : Fin 32, k.val < 10 ∨ 16 ≤ k.val → (0xFFFF03FF : Word).getLsbD k = true := by decide
  rw [countDown_csr]
  split
  · exact and_mask_bit fun h => kept ⟨k, h⟩ hk
  · rfl

theorem enter_ier : (s.enter d).ier = if d = some 1 then setBit s.ier 1 false else s.ier := by
  cases d with
  | none => rfl
  | some m =>
    by_cases hm : m = 1
    · subst hm; rfl
    · rw [if_neg (hm ∘ Option.some.inj), State.enter, takeInterrupt_maskable s m hm]

theorem enter_nrp : (s.enter d).nrp = if d = some 1 then s.pc else s.nrp := by
  cases d with
  | none => rfl
  | some m =>
    by_cases hm : m = 1
    · subst hm; rfl
    · rw [if_neg (hm ∘ Option.some.inj), State.enter, takeInterrupt_maskable s m hm]

theorem enter_irp_of_not_maskable (h : d = none ∨ d = some 1) : (s.enter d).irp = s.irp := by
  rcases h with rfl | rfl <;> rfl

theorem enter_csr_of_not_maskable (h : d = none ∨ d = some 1) : (s.enter d).csr = s.csr := by
  rcases h with rfl | rfl <;> rfl

/-- Interrupt entry changes no bit of CSR but GIE and PGIE. -/
theorem enter_csr_bit {k : Nat} (hk : 2 ≤ k) : (s.enter d).csr.getLsbD k = s.csr.getLsbD k := by
  cases d with
  | none => rfl
  | some m =>
    by_cases hm : m = 1
    · subst hm; rfl
    · simp only [State.enter, takeInterrupt_maskable s m hm]
      rw [setBit_other (by decide) (by omega), setBit_other (by decide) (by omega)]

/-! ## The whole end of a cycle -/

/-- `u` is what D.1 to D.3 make of `s`. -/
structure State.LandsAs (s : State) (n : Option Nat) (u : State) : Prop where
  amr : u.amr = s.controlled.amr
  csr : u.csr = s.csrLanded
  ier : u.ier = s.controlled.ier
  istb : u.istb = s.controlled.istb
  irp : u.irp = s.controlled.irp
  nrp : u.nrp = s.controlled.nrp
  command : u.pendingIfr = s.controlled.pendingIfr
  power : u.power = s.controlled.power
  ifr : u.ifr = s.nextIfr
  latch : u.intLatch = 0
  entry : u.intHold = s.intHold
  entering : u.entering = s.entering
  launch : u.launch = s.launch
  mem : u.mem = s.mem.writeAll s.e1.stores
  prog : u.prog = s.prog
  regs : u.pendingRegs = stillLate s.pendingRegs ++ s.e1.late
  branches : u.pendingBranches = s.nextBranches
  sat : u.pendingSat = (s.pendingSat.filter (fun k => !due k)).map (· - 1) ++ s.e1.sat
  pc :
    (∃ p, s.pendingBranches.find? (fun p => due p.left) = some p ∧ u.pc = p.target ∧ u.hold = .count 0)
      ∨ (s.pendingBranches.find? (fun p => due p.left) = none ∧ ∃ k, n = some k ∧ s.pc.toNat + 4 * k < 4294967296
        ∧ u.pc = s.pc + BitVec.ofNat 32 (4 * k) ∧ u.hold = s.e1.hold)
      ∨ (s.pendingBranches.find? (fun p => due p.left) = none ∧ n = none ∧ u.pc = s.pc ∧ u.hold = s.hold.tick)

/-- The end of a cycle that answers: D.1 to D.3, the end of a power-down, interrupt entry. -/
theorem endCycle_landsAs (h : s.endCycle n = .next t) :
    ∃ u, s.LandsAs n u ∧ t = (u.countDown s.nextShadow s.wakes).enter s.decision := by
  obtain ⟨r, u, hr, hu, ht⟩ := endCycle_next h
  obtain ⟨amr, csr, ier, istb, irp, nrp, command, power⟩ := endCycle_ctrl hr hu
  obtain ⟨ifr, latch, -, -, entry, entering, -, launch, -⟩ := endCycle_flags hr hu
  obtain ⟨mem, prog⟩ := endCycle_memory hr hu
  obtain ⟨-, -, regs, branches, sat⟩ := endCycle_inFlight hr hu
  have pc := endCycle_pc hr hu
  exact ⟨u, ⟨amr, csr, ier, istb, irp, nrp, command, power, ifr, latch, entry, entering, launch, mem, prog, regs,
    branches, sat, pc⟩, ht⟩

/-- The read-only fields of CSR after a cycle. -/
theorem endCycle_csr_readOnly {k : Nat} (h : s.endCycle n = .next t) (hk : k = 8 ∨ 16 ≤ k) :
    t.csr.getLsbD k = s.csr.getLsbD k := by
  obtain ⟨u, hu, rfl⟩ := endCycle_landsAs h
  rw [enter_csr_bit (by omega), countDown_csr_bit _ _ (by omega), hu.csr, csrLanded_bit (by omega),
    controlled_csr_readOnly hk]

/-- SAT after a cycle: set by a request falling due, else as the packet's writes leave it. -/
theorem endCycle_satBit (h : s.endCycle n = .next t) :
    t.satBit = (s.pendingSat.any due || s.controlled.satBit) := by
  obtain ⟨u, hu, rfl⟩ := endCycle_landsAs h
  rw [← csrLanded_sat, ← hu.csr]
  exact (enter_csr_bit (by omega)).trans (countDown_csr_bit _ _ (by omega))

/-- NMIE after a cycle: cleared by the entry of NMI alone. -/
theorem endCycle_nmie (h : s.endCycle n = .next t) (hs : s.nmie = true) (ht : t.nmie = false) :
    s.decision = some 1 := by
  obtain ⟨u, hu, rfl⟩ := endCycle_landsAs h
  refine Decidable.byContradiction fun hd => ?_
  rw [State.nmie, enter_ier, if_neg hd, State.countDown_ier, hu.ier] at ht
  exact absurd (controlled_nmie hs) (by rw [State.nmie, ht]; decide)

/-- A cycle that takes an interrupt ends at the start of its entry. -/
theorem endCycle_entry {m : BitVec 4} (h : s.endCycle n = .next t) (hd : s.decision = some m) :
    t.intHold = 7 ∧ t.entering = m := by
  obtain ⟨u, -, rfl⟩ := endCycle_landsAs h
  rw [hd]
  exact ⟨State.takeInterrupt_intHold .., State.takeInterrupt_entering ..⟩

/-- Settles O24, each register through the packet's writes, the end of a power-down and interrupt entry. -/
theorem controlRegistersAreKept : Obligations.ControlRegistersAreKept := by
  intro s t n h
  obtain ⟨u, hu, rfl⟩ := endCycle_landsAs h
  refine ⟨fun ha => ?_, fun hi => ?_, fun hi hd => ?_, fun hn hd => ?_, fun hi hr hd => ?_, fun hc hr hs hw hd => ?_,
    fun hc hw => ?_⟩
  · rw [State.enter_amr, State.countDown_amr, hu.amr, controlled_amr ha]
  · rw [State.enter_istb, State.countDown_istb, hu.istb, controlled_istb hi]
  · rw [enter_irp_of_not_maskable hd, State.countDown_irp, hu.irp, controlled_irp hi]
  · rw [enter_nrp, if_neg hd, State.countDown_nrp, hu.nrp, controlled_nrp hn]
  · rw [enter_ier, if_neg hd, State.countDown_ier, hu.ier, controlled_ier hi hr]
  · rw [enter_csr_of_not_maskable hd, countDown_csr, hw, hu.csr, csrLanded_of_not_due hs, controlled_csr hc hr]
    rfl
  · rw [State.enter_power, countDown_power, hw, hu.power, controlled_power hc]
    rfl

/-- Settles O25: SAT after a cycle is the set falling due, or what the packet's writes leave. -/
theorem satIsSetByResultsAndClearedByMvc : Obligations.SatIsSetByResultsAndClearedByMvc := by
  intro s t n h
  have hsat := endCycle_satBit h
  refine ⟨fun hdue => ?_, fun hnot hc => ?_, fun v b hnot hc => ?_, fun k hk => ?_⟩
  · rw [hsat, (any_due_eq_true _).mpr hdue, Bool.true_or]
  · rw [hsat, (any_due_eq_false _).mpr hnot, Bool.false_or, controlled_satBit hc]
  · rw [hsat, (any_due_eq_false _).mpr hnot, Bool.false_or, State.controlled, hc]
    exact setBit_same (by decide)
  · obtain ⟨u, hu, rfl⟩ := endCycle_landsAs h
    rw [State.enter_pendingSat, State.countDown_pendingSat, hu.sat, List.mem_append]
    refine hk.symm.imp_left fun ⟨h1, hk⟩ => List.mem_map.mpr ⟨k + 1, ?_, rfl⟩
    exact List.mem_filter.mpr ⟨hk, by simp [due]; omega⟩

/-! ## The program pointer -/

/-- No branch falls due. -/
theorem find_due_eq_none (h : ∀ p ∈ s.pendingBranches, 1 < p.left) :
    s.pendingBranches.find? (fun p => due p.left) = none := by
  simpa [due] using h

/-- Without a branch due, a packet that ends past FFFF FFFFh stops (10_state.md R54, log 22). -/
theorem advancePc_wrap {k : Nat} (h : ∀ p ∈ s.pendingBranches, 1 < p.left) (hk : 2 ^ 32 ≤ s.pc.toNat + 4 * k) :
    s.advancePc (some k) = .error (.fault .pcWrap) := by
  unfold State.advancePc
  rw [find_due_eq_none h]
  exact if_neg (by omega)

/-- A writeConflict is the only way D.1 stops. -/
theorem retire_cases (s : State) : s.retire = .error (.fault .writeConflict) ∨ ∃ r, s.retire = .ok r := by
  unfold State.retire
  split
  · exact .inl rfl
  · exact .inr ⟨_, rfl⟩

/-- Settles O31: with no branch due, D.3 moves pc past the packet, holds it, or stops. -/
theorem programPointerAdvances : Obligations.ProgramPointerAdvances := by
  refine ⟨fun s t k h hd hb => ?_, fun s t h hd hb => ?_, fun s k hb hw hk => ?_⟩
  · obtain ⟨u, hu, rfl⟩ := endCycle_landsAs h
    rw [hd]
    rcases hu.pc with ⟨p, hp, -⟩ | ⟨-, j, hj, hlt, hpc, hhold⟩ | ⟨-, hn, -⟩
    · simp [find_due_eq_none hb] at hp
    · cases hj
      refine ⟨?_, (State.countDown_hold ..).trans hhold⟩
      rw [State.enter, State.countDown_pc, hpc, BitVec.toNat_add, BitVec.toNat_ofNat]
      omega
    · cases hn
  · obtain ⟨u, hu, rfl⟩ := endCycle_landsAs h
    rw [hd]
    rcases hu.pc with ⟨p, hp, -⟩ | ⟨-, j, hj, -⟩ | ⟨-, -, hpc, hhold⟩
    · simp [find_due_eq_none hb] at hp
    · cases hj
    · rw [State.enter, State.countDown_pc, State.countDown_hold, hpc, hhold]
      exact ⟨rfl, fun e => by rw [e]; rfl, fun k e => by rw [e]; rfl⟩
  · rcases retire_cases s with hr | ⟨r, hr⟩
    · exact absurd (by simp [State.endCycle, hr, bind, Except.bind, outcome]) hw
    · have hstop : r.commitStores.updateControl.advancePc (some k) = .error (.fault .pcWrap) :=
        advancePc_wrap (by simpa [State.updateControl, retire_pendingBranches hr] using hb)
          (by simpa [State.updateControl, retire_pc hr] using hk)
      simp [State.endCycle, hr, hstop, bind, Except.bind, outcome]

end Sys2Proof.Machine
end

section
/-! SUPPORT. A whole step: the event Reset, or the end of a cycle on the effects that the packet in E1, if there is one,
has added (70_reset_and_hazards.md R804); and what no step changes. -/

namespace Sys2Proof.Machine

variable {s t v : State}

/-- A step that answers is the event Reset, or the end of a cycle that starts as `s` with its environment's entry taken
and, when a packet issued, its effects added. -/
theorem step_cases (h : step s = .next t) :
    (s.envNow.reset = true ∧ t = s.takeEnv.resetEvent)
      ∨ ∃ v n, AddsEffects s.takeEnv v ∧ (s.e1.Ok → v.e1.Ok) ∧ v.endCycle n = .next t := by
  rcases step_next h with hreset | ⟨-, -, hend⟩ | ⟨-, -, is, v, -, hrun, hend⟩
  · exact .inl hreset
  · exact .inr ⟨_, _, .refl _, id, hend⟩
  · obtain ⟨hadds, hok⟩ := runPacket_addsEffects hrun
    exact .inr ⟨v, _, hadds, hok, hend⟩

/-- Program memory and the launch record after a cycle. -/
theorem endCycle_launch {n : Option Nat} (h : s.endCycle n = .next t) : t.launch = s.launch ∧ t.prog = s.prog := by
  obtain ⟨u, hu, rfl⟩ := endCycle_landsAs h
  rw [State.enter_launch, State.countDown_launch, hu.launch, State.enter_prog, State.countDown_prog, hu.prog]
  exact ⟨rfl, rfl⟩

/-- A read-only field of CSR after a cycle. -/
theorem endCycle_csr_field {n : Option Nat} {start : Nat} (len : Nat) (h : s.endCycle n = .next t) (hs : 16 ≤ start) :
    t.csr.extractLsb' start len = s.csr.extractLsb' start len := by
  apply BitVec.eq_of_getLsbD_eq
  intro k _
  rw [BitVec.getLsbD_extractLsb', BitVec.getLsbD_extractLsb', endCycle_csr_readOnly h (.inr (by omega))]

/-- Settles O34: the event Reset writes these fields back as they were, and the end of a cycle leaves them. -/
theorem whatNoInstructionChanges : Obligations.WhatNoInstructionChanges := by
  intro s t h
  rcases step_cases h with ⟨hreset, rfl⟩ | ⟨v, n, hadds, -, hend⟩
  · refine ⟨rfl, fun _ => rfl, resetEvent_littleEndian _, ?_, fun _ => ?_, fun _ _ => .inl hreset⟩
    · rw [div_mod_eq_extract, div_mod_eq_extract, resetEvent_revision, State.takeEnv_csr]
    · rw [div_eq_extract]
      exact congrArg BitVec.toNat (csrReset_cpuId ..)
  · have hcsr : v.csr = s.csr := hadds.same State.csr fun _ _ _ => rfl
    have hier : v.ier = s.ier := hadds.same State.ier fun _ _ _ => rfl
    have hlaunch : v.launch = s.launch := hadds.same State.launch fun _ _ _ => rfl
    have hprog : v.prog = s.prog := hadds.same State.prog fun _ _ _ => rfl
    obtain ⟨hlaunch', hprog'⟩ := endCycle_launch hend
    refine ⟨hlaunch'.trans hlaunch, fun a => by rw [hprog', hprog], ?_, ?_, fun hcpu => ?_, fun hs ht => .inr ?_⟩
    · rw [State.littleEndian, endCycle_csr_readOnly hend (.inl rfl), hcsr, State.littleEndian]
    · rw [div_mod_eq_extract, div_mod_eq_extract, endCycle_csr_field 8 hend (by decide), hcsr]
    · rw [div_eq_extract] at hcpu ⊢
      rw [endCycle_csr_field 8 hend (by decide), hcsr, hcpu]
    · have hv : v.nmie = true := by rw [State.nmie, hier]; exact hs
      exact endCycle_entry hend (endCycle_nmie hend hv ht)

end Sys2Proof.Machine
end

section
/-! SUPPORT. The invariant part by part through the end of a cycle: control registers, results and branches in flight, the
interrupt logic, the program pointer (10_state.md R51 to R78). -/

namespace Sys2Proof.Machine

variable {s t u : State} {n : Option Nat}

/-! ## CSR and the power-down in force -/

/-- What the invariant says of CSR: CPU ID is 0, and PWRD is legal and agrees with the power-down in force. -/
def CsrLegal (c : Word) (p : Power) : Prop :=
  c.extractLsb' 24 8 = 0 ∧ powerOf (c.extractLsb' 10 6) ≠ none ∧ (p = .none ∨ powerOf (c.extractLsb' 10 6) = some p)

theorem controlInv_iff :
    s.ControlInv ↔ s.amr &&& 0xFC000000 = 0 ∧ CsrLegal s.csr s.power ∧ s.ifr &&& 0xFFFF000D = 0
      ∧ s.ier &&& 0xFFFF000D = 1 := by
  simp only [State.ControlInv, CsrLegal, and_assoc]

namespace CsrLegal

variable {c w : Word} {p : Power}

/-- Bits 0 to 9 of CSR play no part. -/
theorem setBit {i : Nat} {b : Bool} (h : CsrLegal c p) (hi : i < 10) : CsrLegal (setBit c i b) p := by
  unfold CsrLegal
  rw [extract_setBit _ _ _ _ _ (by omega) (.inl (by omega)), extract_setBit _ _ _ _ _ (by omega) (.inl hi)]
  exact h

/-- An MVC writes PWRD and the power-down in force alike. -/
theorem written {b : Bool} (h : CsrLegal c p) (hw : (powerOf (w.extractLsb' 10 6)).isSome = true) :
    CsrLegal (Machine.setBit ((c &&& 0xFFFF0100) ||| (w &&& 0x0000FCFF)) 9 b)
      ((powerOf (w.extractLsb' 10 6)).getD .none) := by
  obtain ⟨q, hq⟩ := Option.isSome_iff_exists.mp hw
  refine CsrLegal.setBit ?_ (by decide)
  unfold CsrLegal
  rw [csr_kept_field _ _ 24 8 (by decide) (by decide), csr_written_field _ _ 10 6 (by decide) (by decide), hq]
  exact ⟨h.1, Option.some_ne_none q, .inr rfl⟩

theorem awake (h : CsrLegal c p) : CsrLegal c .none :=
  ⟨h.1, h.2.1, .inl rfl⟩

/-- PWRD cleared at the end of a power-down (60_exceptions.md R761). -/
theorem cleared (h : CsrLegal c p) : CsrLegal (c &&& 0xFFFF03FF) .none := by
  unfold CsrLegal
  rw [extract_and_keep _ _ 24 8 (by decide), extract_and_clear _ _ 10 6 (by decide)]
  exact ⟨h.1, by decide, .inl rfl⟩

end CsrLegal

/-! ## Masks of interrupts -/

theorem masked_out {k : Nat} (x : BitVec k) {m m' : BitVec k} (h : m &&& m' = 0) : x &&& m &&& m' = 0 := by
  rw [BitVec.and_assoc, h]
  exact BitVec.and_zero

theorem and_outside {k : Nat} {x m : BitVec k} (y : BitVec k) (h : x &&& m = 0) : x &&& y &&& m = 0 := by
  rw [BitVec.and_assoc, BitVec.and_comm y, ← BitVec.and_assoc, h]
  exact BitVec.zero_and

theorem or_outside {k : Nat} {x y m : BitVec k} (hx : x &&& m = 0) (hy : y &&& m = 0) : (x ||| y) &&& m = 0 := by
  rw [mask_or, hx, hy]
  exact BitVec.or_zero

/-- The interrupts of ISR and ICR are among those that exist. -/
theorem maskable_subset {x : BitVec 16} (h : x &&& ~~~maskableMask = 0) : x &&& ~~~interruptMask = 0 := by
  have hmask : ~~~interruptMask = ~~~maskableMask &&& ~~~interruptMask := by decide
  rw [hmask, ← BitVec.and_assoc, h]
  exact BitVec.zero_and

/-- A set of interrupts that exist reads as 0 in the reserved bits of IFR and IER. -/
theorem setWidth_reserved {x : BitVec 16} (h : x &&& ~~~interruptMask = 0) : x.setWidth 32 &&& 0xFFFF000D = 0 := by
  have hmask : ∀ k : Fin 16, (0xFFFF000D : Word).getLsbD k = (~~~interruptMask).getLsbD k := by decide
  apply BitVec.eq_of_getLsbD_eq
  intro k _
  rw [BitVec.getLsbD_and, BitVec.getLsbD_setWidth]
  by_cases hk : k < 16
  · have hbit : (x &&& ~~~interruptMask).getLsbD k = false := by rw [h]; exact BitVec.getLsbD_zero
    rw [hmask ⟨k, hk⟩, decide_eq_true (show k < 32 by omega), Bool.true_and, ← BitVec.getLsbD_and, hbit]
    exact BitVec.getLsbD_zero.symm
  · simp [BitVec.getLsbD_of_ge x k (by omega)]

/-- An interrupt taken is one that exists. -/
theorem decision_exists {m : BitVec 4} (h : s.decision = some m) : interruptMask.getLsbD m.toNat = true := by
  unfold State.decision at h
  split at h
  · split at h
    · next k hk =>
      have hm : k = m := by split at h <;> simp_all
      obtain ⟨hbit, -⟩ := (lowestSet_eq_some ..).mp (hm ▸ hk)
      rw [candidates, BitVec.getLsbD_and, Bool.and_eq_true] at hbit
      exact hbit.2
    · cases h
  · cases h

/-- The flags after a cycle are those of interrupts that exist. -/
theorem nextIfr_reserved (hs : s.ifr &&& 0xFFFF000D = 0) (hi : s.InterruptInv) : s.nextIfr &&& 0xFFFF000D = 0 := by
  obtain ⟨hlatch, hset, -⟩ := hi
  exact or_outside (and_outside _ hs) (setWidth_reserved (or_outside (maskable_subset hset) hlatch))

/-! ## Control registers -/

/-- A legal control-register write keeps what the invariant says of the control registers. -/
theorem applyCtrl_controlInv {c : CtrlWrite} (h : s.ControlInv) (hc : c.legal = true) : (s.applyCtrl c).ControlInv := by
  obtain ⟨hamr, hcsr, hifr, hier⟩ := controlInv_iff.mp h
  cases c with
  | amr w => exact controlInv_iff.mpr ⟨masked_out w (by decide), hcsr, hifr, hier⟩
  | csr w b => exact controlInv_iff.mpr ⟨hamr, hcsr.written hc, hifr, hier⟩
  | ier w =>
    have hw : ((s.ier &&& 0xFFFF000F) ||| (w &&& 0x0000FFF2)) &&& 0xFFFF000D = 1 := by
      rw [mask_or, masked_out w (by decide), BitVec.and_assoc,
        show (0xFFFF000F : Word) &&& 0xFFFF000D = 0xFFFF000D by decide, hier]
      exact BitVec.or_zero
    exact controlInv_iff.mpr ⟨hamr, hcsr, hifr, hw⟩
  | returnIrp => exact controlInv_iff.mpr ⟨hamr, hcsr.setBit (by decide), hifr, hier⟩
  | returnNrp => exact controlInv_iff.mpr ⟨hamr, hcsr, hifr, (setBit_and _ _ _ _ (by decide) (by decide)).trans hier⟩
  | isr w | icr w | istp w | irp w | nrp w => exact h

theorem controlled_controlInv (h : s.ControlInv) (hi : s.InterruptInv) (he : s.e1.Ok) : s.controlled.ControlInv := by
  refine controlled_induct _ ?_ fun c hc x hx => applyCtrl_controlInv hx (he.ctrl c hc)
  obtain ⟨hamr, hcsr, hifr, hier⟩ := controlInv_iff.mp h
  exact controlInv_iff.mpr ⟨hamr, hcsr, nextIfr_reserved hifr hi, hier⟩

theorem landsAs_controlInv (hu : s.LandsAs n u) (h : s.controlled.ControlInv) : u.ControlInv := by
  obtain ⟨hamr, hcsr, hifr, hier⟩ := controlInv_iff.mp h
  have hifr' : s.controlled.ifr = s.nextIfr := State.applyCtrls_ifr ..
  refine controlInv_iff.mpr ⟨hu.amr ▸ hamr, ?_, hu.ifr.trans hifr'.symm ▸ hifr, hu.ier ▸ hier⟩
  rw [hu.csr, hu.power, State.csrLanded]
  split
  · exact hcsr.setBit (by decide)
  · exact hcsr

theorem countDown_controlInv (h : s.ControlInv) (m : Nat) (w : Bool) : (s.countDown m w).ControlInv := by
  obtain ⟨hamr, hcsr, hifr, hier⟩ := controlInv_iff.mp h
  have hcsr' : CsrLegal (s.countDown m w).csr (s.countDown m w).power := by
    rw [countDown_csr, countDown_power]
    cases w with
    | false => exact hcsr
    | true =>
      cases s.freeBit with
      | false => exact hcsr.cleared
      | true => exact hcsr.awake
  simp only [controlInv_iff, State.countDown_amr, State.countDown_ifr, State.countDown_ier]
  exact ⟨hamr, hcsr', hifr, hier⟩

theorem enter_controlInv (h : s.ControlInv) (d : Option (BitVec 4)) : (s.enter d).ControlInv := by
  obtain ⟨hamr, hcsr, hifr, hier⟩ := controlInv_iff.mp h
  cases d with
  | none => exact h
  | some m =>
    by_cases hm : m = 1
    · subst hm
      exact controlInv_iff.mpr ⟨hamr, hcsr, hifr, (setBit_and _ _ _ _ (by decide) (by decide)).trans hier⟩
    · rw [State.enter, takeInterrupt_maskable s m hm]
      exact controlInv_iff.mpr ⟨hamr, (hcsr.setBit (by decide)).setBit (by decide), hifr, hier⟩

/-! ## Results and branches in flight -/

theorem tick_small {g : Hold} (h : g.small = true) : g.tick.small = true := by
  cases g with
  | count k => simp only [Hold.small, Hold.tick, decide_eq_true_eq] at *; omega
  | idle => rfl

/-- A result in flight after a cycle was one before, or is the packet's. -/
theorem stillLate_range {l : List LateWrite} (h : ∀ p ∈ l, 1 ≤ p.left ∧ p.left ≤ 4) :
    ∀ p ∈ stillLate l, 1 ≤ p.left ∧ p.left ≤ 4 := by
  intro p hp
  obtain ⟨q, hq, rfl⟩ := List.mem_map.mp hp
  obtain ⟨hq, hdue⟩ := List.mem_filter.mp hq
  have := h q hq
  simp only [due, Bool.not_eq_true', decide_eq_false_iff_not] at hdue
  exact ⟨by dsimp only; omega, by dsimp only; omega⟩

/-- The branches that stay in flight, one cycle nearer. -/
def stillPending (l : List PendingBranch) : List PendingBranch :=
  (l.filter (fun p => !due p.left)).map (fun p => { p with left := p.left - 1 })

theorem nextBranches_eq :
    s.nextBranches = stillPending s.pendingBranches ++ s.e1.branch.toList.map (fun a => { target := a, left := 5 }) :=
  rfl

theorem mem_stillPending {l : List PendingBranch} {p : PendingBranch} :
    p ∈ stillPending l ↔ ∃ q ∈ l, 1 < q.left ∧ p = { q with left := q.left - 1 } := by
  simp only [stillPending, List.mem_map, List.mem_filter, due, Bool.not_eq_true', decide_eq_false_iff_not, Nat.not_le,
    and_assoc, eq_comm (b := p)]

theorem stillPending_pairwise {l : List PendingBranch} (h : l.Pairwise (fun p q => p.left < q.left)) :
    (stillPending l).Pairwise (fun p q => p.left < q.left) := by
  refine List.pairwise_map.mpr ((h.filter _).imp_of_mem fun {p q} hp hq hlt => ?_)
  have hp := (List.mem_filter.mp hp).2
  simp only [due, Bool.not_eq_true', decide_eq_false_iff_not] at hp
  dsimp only
  omega

/-- The branch shadow after a cycle covers five delay slots at most. -/
theorem nextShadow_le (h : s.branchShadow ≤ 5) : s.nextShadow ≤ 5 := by
  unfold State.nextShadow
  split <;> omega

/-- A branch in flight before the cycle is covered after it, with a cycle less. -/
theorem left_le_nextShadow {k : Nat} (h : k ≤ s.branchShadow) (h5 : s.branchShadow ≤ 5) : k - 1 ≤ s.nextShadow := by
  unfold State.nextShadow
  split <;> omega

/-- Every branch in flight after a cycle is covered by the branch shadow and goes to a word address. -/
theorem nextBranches_range (h : s.PendingInv) (he : s.e1.Ok) :
    ∀ p ∈ s.nextBranches, 1 ≤ p.left ∧ p.left ≤ s.nextShadow ∧ p.target.extractLsb' 0 2 = 0 := by
  obtain ⟨-, hbranches, -, hshadow, -⟩ := h
  intro p hp
  rw [nextBranches_eq] at hp
  rcases List.mem_append.mp hp with hp | hp
  · obtain ⟨q, hq, hlt, rfl⟩ := mem_stillPending.mp hp
    obtain ⟨-, hle, htarget⟩ := hbranches q hq
    exact ⟨Nat.le_sub_one_of_lt hlt, left_le_nextShadow hle hshadow, htarget⟩
  · obtain ⟨a, ha, rfl⟩ := List.mem_map.mp hp
    have ha := Option.mem_toList.mp ha
    have hseen : s.e1.branchSeen = true := he.seen (by rw [Option.mem_def.mp ha]; exact Option.some_ne_none a)
    exact ⟨Nat.le_add_left 1 4, by simp [State.nextShadow, hseen], he.target a ha⟩

/-- The branches in flight stay oldest first: the packet's own has more cycles left than any before it. -/
theorem nextBranches_pairwise (h : s.PendingInv) : s.nextBranches.Pairwise (fun p q => p.left < q.left) := by
  obtain ⟨-, hbranches, horder, hshadow, -⟩ := h
  rw [nextBranches_eq]
  refine List.pairwise_append.mpr ⟨stillPending_pairwise horder, ?_, fun p hp q hq => ?_⟩
  · cases s.e1.branch <;> simp
  · obtain ⟨o, ho, -, rfl⟩ := mem_stillPending.mp hp
    obtain ⟨a, -, rfl⟩ := List.mem_map.mp hq
    obtain ⟨-, hle, -⟩ := hbranches o ho
    dsimp only
    omega

/-- SAT requests after a cycle. -/
theorem pendingSat_range {l : List Nat} (h : ∀ k ∈ l, 1 ≤ k ∧ k ≤ 2) :
    ∀ k ∈ (l.filter (fun k => !due k)).map (· - 1), 1 ≤ k ∧ k ≤ 2 := by
  intro k hk
  obtain ⟨j, hj, rfl⟩ := List.mem_map.mp hk
  obtain ⟨hj, hdue⟩ := List.mem_filter.mp hj
  have := h j hj
  simp only [due, Bool.not_eq_true', decide_eq_false_iff_not] at hdue
  omega

theorem landsAs_hold (hu : s.LandsAs n u) (h : s.hold.small = true) (he : s.e1.Ok) : u.hold.small = true := by
  rcases hu.pc with ⟨p, -, -, hhold⟩ | ⟨-, k, -, -, -, hhold⟩ | ⟨-, -, -, hhold⟩
  · rw [hhold]; rfl
  · rw [hhold]; exact he.hold
  · rw [hhold]; exact tick_small h

theorem endCycle_pendingInv (h : s.endCycle n = .next t) (hs : s.PendingInv) (he : s.e1.Ok) : t.PendingInv := by
  obtain ⟨u, hu, rfl⟩ := endCycle_landsAs h
  obtain ⟨hregs, hbranches, horder, hshadow, hsat, hhold⟩ := hs
  have hhold' : ((u.countDown s.nextShadow s.wakes).enter s.decision).hold.small = true := by
    cases s.decision with
    | none => rw [State.enter, State.countDown_hold]; exact landsAs_hold hu hhold he
    | some m => rw [State.enter, State.takeInterrupt_hold]; rfl
  simp only [State.PendingInv, State.enter_pendingRegs, State.countDown_pendingRegs, hu.regs, State.enter_pendingBranches,
    State.countDown_pendingBranches, hu.branches, State.enter_branchShadow, State.countDown_branchShadow,
    State.enter_pendingSat, State.countDown_pendingSat, hu.sat]
  refine ⟨?_, nextBranches_range ⟨hregs, hbranches, horder, hshadow, hsat, hhold⟩ he,
    nextBranches_pairwise ⟨hregs, hbranches, horder, hshadow, hsat, hhold⟩, nextShadow_le hshadow, ?_, hhold'⟩
  · exact List.forall_mem_append.mpr ⟨stillLate_range hregs, he.late⟩
  · exact List.forall_mem_append.mpr ⟨pendingSat_range hsat, he.sat⟩

/-! ## The interrupt logic -/

/-- The command in flight names interrupts of ISR and ICR alone (10_state.md R70). -/
theorem controlled_command :
    s.controlled.pendingIfr.set &&& ~~~maskableMask = 0 ∧ s.controlled.pendingIfr.clear &&& ~~~maskableMask = 0 := by
  have masked (x w : BitVec 16) (hx : x &&& ~~~maskableMask = 0) :
      (x ||| (w &&& maskableMask)) &&& ~~~maskableMask = 0 :=
    or_outside hx (masked_out w (by decide))
  refine controlled_induct
    (fun x => x.pendingIfr.set &&& ~~~maskableMask = 0 ∧ x.pendingIfr.clear &&& ~~~maskableMask = 0)
    ⟨BitVec.zero_and, BitVec.zero_and⟩ fun c _ x ⟨hset, hclear⟩ => ?_
  cases c with
  | isr w => exact ⟨masked _ _ hset, hclear⟩
  | icr w => exact ⟨hset, masked _ _ hclear⟩
  | _ => exact ⟨hset, hclear⟩

theorem endCycle_interruptInv (h : s.endCycle n = .next t) (hs : s.InterruptInv) : t.InterruptInv := by
  obtain ⟨u, hu, rfl⟩ := endCycle_landsAs h
  obtain ⟨-, -, -, hentry, hentering⟩ := hs
  have hcount : ((u.countDown s.nextShadow s.wakes).enter s.decision).intHold ≤ 7
      ∧ (((u.countDown s.nextShadow s.wakes).enter s.decision).intHold = 0
        ∨ interruptMask.getLsbD ((u.countDown s.nextShadow s.wakes).enter s.decision).entering.toNat = true) := by
    cases hd : s.decision with
    | none =>
      rw [State.enter, State.countDown_intHold, State.countDown_entering, hu.entry, hu.entering]
      exact ⟨by omega, hentering.imp_left fun h0 => by omega⟩
    | some m =>
      rw [State.enter, State.takeInterrupt_intHold, State.takeInterrupt_entering]
      exact ⟨Nat.le_refl 7, .inr (decision_exists hd)⟩
  obtain ⟨hset, hclear⟩ := controlled_command (s := s)
  simp only [State.InterruptInv, State.enter_intLatch, State.countDown_intLatch, hu.latch, State.enter_pendingIfr,
    State.countDown_pendingIfr, hu.command]
  exact ⟨BitVec.zero_and, hset, hclear, hcount⟩

/-! ## The program pointer -/

theorem aligned_iff (w : Word) : w.extractLsb' 0 2 = 0 ↔ w.toNat % 4 = 0 := by
  have := mod_eq_extract w 2
  rw [← BitVec.toNat_inj, ← this]
  rfl

theorem landsAs_pc_aligned (hu : s.LandsAs n u) (hs : s.PendingInv) (h : s.pc.extractLsb' 0 2 = 0) :
    u.pc.extractLsb' 0 2 = 0 := by
  obtain ⟨-, hbranches, -⟩ := hs
  rcases hu.pc with ⟨p, hp, hpc, -⟩ | ⟨-, k, -, hlt, hpc, -⟩ | ⟨-, -, hpc, -⟩
  · obtain ⟨-, -, htarget⟩ := hbranches p (List.mem_of_find?_eq_some hp)
    rw [hpc, htarget]
  · rw [aligned_iff] at h ⊢
    rw [hpc, BitVec.toNat_add, BitVec.toNat_ofNat]
    omega
  · rw [hpc, h]

theorem endCycle_pc_aligned (h : s.endCycle n = .next t) (hs : s.PendingInv) (hpc : s.pc.extractLsb' 0 2 = 0) :
    t.pc.extractLsb' 0 2 = 0 := by
  obtain ⟨u, hu, rfl⟩ := endCycle_landsAs h
  cases s.decision with
  | none => rw [State.enter, State.countDown_pc]; exact landsAs_pc_aligned hu hs hpc
  | some m => rw [State.enter, State.takeInterrupt_pc]; exact entryAddress_aligned ..

/-! ## The whole invariant -/

/-- The invariant at the end of a cycle, before it is carried out: as between cycles, but for the effects of the packet,
which are such as a packet can have. -/
structure State.InvInE1 (s : State) : Prop where
  memory : s.MemoryInv
  control : s.ControlInv
  pending : s.PendingInv
  interrupt : s.InterruptInv
  pc : s.pc.extractLsb' 0 2 = 0
  effects : s.e1.Ok

/-- The environment's entry brings interrupts that exist (60_exceptions.md R710). -/
theorem takeEnv_invInE1 (h : s.Inv) : s.takeEnv.InvInE1 := by
  obtain ⟨memory, control, pending, ⟨hlatch, hinterrupt⟩, pc, effects⟩ := h
  have hlatch' : (s.intLatch ||| (s.envNow.arrive &&& interruptMask)) &&& ~~~interruptMask = 0 :=
    or_outside hlatch (masked_out _ (by decide))
  exact ⟨memory, control, pending, ⟨hlatch', hinterrupt⟩, pc, show s.e1.Ok from effects ▸ Effects.Ok.empty⟩

theorem AddsEffects.invInE1 (ht : AddsEffects s t) (hs : s.InvInE1) (he : t.e1.Ok) : t.InvInE1 := by
  obtain ⟨memory, control, pending, interrupt, pc, -⟩ := hs
  have hrest := ht.rest
  generalize t.freeIdx = k at hrest
  generalize hte : t.e1 = e at hrest he
  subst hrest
  exact ⟨memory, control, pending, interrupt, pc, he⟩

/-- The end of a cycle gives the invariant back. -/
theorem endCycle_inv (h : s.endCycle n = .next t) (hs : s.InvInE1) : t.Inv := by
  obtain ⟨⟨hmem, hprog⟩, control, pending, interrupt, pc, effects⟩ := hs
  refine ⟨?_, ?_, endCycle_pendingInv h pending effects, endCycle_interruptInv h interrupt,
    endCycle_pc_aligned h pending pc, ?_⟩ <;> obtain ⟨u, hu, rfl⟩ := endCycle_landsAs h
  · rw [State.MemoryInv, State.enter_mem, State.countDown_mem, hu.mem, State.enter_prog, State.countDown_prog, hu.prog]
    exact ⟨Memory.wf_writeAll _ _ effects.stores hmem, hprog⟩
  · exact enter_controlInv (countDown_controlInv (landsAs_controlInv hu (controlled_controlInv control interrupt effects))
      ..) _
  · rw [State.enter_e1, State.countDown_e1]

/-- Settles O2: a step is the event Reset, or the end of a cycle on effects that a packet can have. -/
theorem stepKeepsInvariant : Obligations.StepKeepsInvariant := by
  intro s t hs h
  have henv := takeEnv_invInE1 hs
  rcases step_cases h with ⟨-, rfl⟩ | ⟨v, n, hadds, hok, hend⟩
  · exact resetEvent_inv henv.memory
  · exact endCycle_inv hend (hadds.invInE1 henv (hok henv.effects))

end Sys2Proof.Machine
end

section
/-! SUPPORT. The two memories at the end of a cycle: data memory takes the packet's stores, program memory is kept
(20_memory.md R141, R180, R181, R182). -/

namespace Sys2Proof.Machine

/-- An address that a list writes a single value to reads as that value. -/
theorem Memory.read_writeAll_of_unique {cells : List Host.Cell} {c : Host.Cell} (m : Memory) (hc : c ∈ cells)
    (hunique : ∀ d ∈ cells, d.1 = c.1 → d = c) : (m.writeAll cells).read c.1 = some c.2 := by
  rw [Memory.read_writeAll]
  cases hlast : cells.reverse.find? (fun d => d.1 == c.1) with
  | none => exact absurd (beq_self_eq_true c.1) (List.find?_eq_none.mp hlast c (List.mem_reverse.mpr hc))
  | some d =>
    have hd : d ∈ cells := List.mem_reverse.mp (List.mem_of_find?_eq_some hlast)
    have haddr : d.1 = c.1 := by simpa using List.find?_some hlast
    rw [hunique d hd haddr]
    rfl

/-- The packet's stores alone reach data memory: a wake-up and interrupt entry leave it. -/
theorem endCycle_mem {s t : State} {n : Option Nat} (h : s.endCycle n = .next t) :
    t.mem = s.mem.writeAll s.e1.stores := by
  obtain ⟨u, hu, rfl⟩ := endCycle_landsAs h
  rw [State.enter_mem, State.countDown_mem, hu.mem]

/-- Settles O22: what the list of stores makes of data memory, byte by byte. -/
theorem memoryAtTheEndOfACycle : Obligations.MemoryAtTheEndOfACycle := by
  intro s t n h
  obtain ⟨-, hprog⟩ := endCycle_launch h
  rw [endCycle_mem h, hprog]
  exact ⟨fun a => Memory.read_writeAll_other _ _ a, fun _ => Memory.read_writeAll_of_unique _, fun _ => rfl⟩

end Sys2Proof.Machine
end

section
/-! SUPPORT. Encode, then decode: every instruction comes back, a pseudo-operation as the instruction it stands for
(30_encoding.md R235 to R255, 46_pseudo_ops.md R670). -/

namespace Sys2Proof

/-- The format that an instruction is encoded in is the one that the decoder finds, and the op table has the entry that
the encoder used. -/
theorem decodeFormat_encode (i : Instr) : decodeFormat (encode i) = .ok i.expand := by
  cases i with
  | addL o | addLToLong o | addLLong o | addLCst o | addLCstLong o | addu o | adduLong o | subL o | subLX o
  | subLToLong o | subLXToLong o | subLCst o | subLCstLong o | subu o | subuX o | subc o | sadd o | saddLong o
  | saddCst o | saddCstLong o | ssub o | ssubX o | ssubCst o | ssubCstLong o | sat o | abs o | absLong o | andL o
  | andLCst o | orL o | orLCst o | xorL o | xorLCst o | cmpeq o | cmpeqCst o | cmpeqLong o | cmpeqCstLong o | cmpgt o
  | cmpgtCst o | cmpgtLong o | cmpgtCstLong o | cmpgtu o | cmpgtuCst o | cmpgtuLong o | cmpgtuCstLong o | cmplt o
  | cmpltCst o | cmpltLong o | cmpltCstLong o | cmpltu o | cmpltuCst o | cmpltuLong o | cmpltuCstLong o | lmbd o
  | lmbdCst o | norm o | normLong o | mvL o | mvLLong o | negL o | negLLong o | notL o | zeroL o | zeroLLong o =>
    exact decodeFormat_encodeL _ _ _ rfl
  | mpy o | mpyCst o | mpyu o | mpyus o | mpysu o | mpysuCst o | mpyh o | mpyhu o | mpyhus o | mpyhsu o | mpyhl o
  | mpyhlu o | mpyhuls o | mpyhslu o | mpylh o | mpylhu o | mpyluhs o | mpylshu o | smpy o | smpyh o | smpyhl o
  | smpylh o => exact decodeFormat_encodeM _ _ _ (by decide) rfl
  | addS o | addSCst o | subS o | subSCst o | add2 o | sub2 o | andS o | andSCst o | orS o | orSCst o | xorS o
  | xorSCst o | shl o | shlLong o | shlToLong o | shlCst o | shlCstLong o | shlCstToLong o | shr o | shrLong o
  | shrCst o | shrCstLong o | shru o | shruLong o | shruCst o | shruCstLong o | sshl o | sshlCst o | setReg o
  | clrReg o | extReg o | extuReg o | mvcRead o | mvcWrite o | bReg o | mvS o | negS o | notS o | zeroS o =>
    exact decodeFormat_encodeS _ _ _ (by decide) rfl
  | bIrp o => exact decodeFormat_encodeIrp o
  | bNrp o => exact decodeFormat_encodeNrp o
  | addD o | addDCst o | subD o | subDCst o | addab o | addabCst o | addah o | addahCst o | addaw o | addawCst o
  | subab o | subabCst o | subah o | subahCst o | subaw o | subawCst o | mvD o | zeroD o =>
    exact decodeFormat_encodeD _ _ _ rfl
  | addk o => exact decodeFormat_encodeAddk o
  | mvk o | mvkl o => exact decodeFormat_encodeMvk o
  | mvkh o | mvklh o => exact decodeFormat_encodeMvkh o
  | extu o | ext o | set o | clr o => exact decodeFormat_encodeField _ _ _ rfl
  | bDisp o => exact decodeFormat_encodeBr o
  | ldhu o | ldbu o | ldb o | stb o | ldh o | sth o | ldw o | stw o => exact decodeFormat_encodeMem _ _ _ rfl
  | ldhu15 o | ldbu15 o | ldb15 o | stb15 o | ldh15 o | sth15 o | ldw15 o | stw15 o =>
    exact decodeFormat_encodeMem15 _ _ _ rfl
  | nop n => exact decodeFormat_encodeNop n
  | nop9 | idle => rfl

/-- Decoding is the tree of formats, then the checks on the fields. -/
theorem decode_eq_ok_iff {w : Word} {i : Instr} : decode w = .ok i ↔ decodeFormat w = .ok i ∧ i.WellFormed := by
  unfold decode
  cases decodeFormat w with
  | error e => simp [bind, Except.bind]
  | ok j =>
    cases hj : j.fieldError with
    | none =>
      suffices j = i → i.WellFormed by simpa [bind, Except.bind, hj]
      rintro rfl
      exact hj
    | some e =>
      suffices j = i → ¬ i.WellFormed by simpa [bind, Except.bind, hj]
      rintro rfl hwf
      cases hj.symm.trans hwf

/-- Settles O5: the decoder finds the format and the op of an encoded word, and the field checks of an instruction are
those of the instruction it stands for. -/
theorem encodedInstructionDecodesBack : Obligations.EncodedInstructionDecodesBack := by
  intro i hi
  exact decode_eq_ok_iff.mpr ⟨decodeFormat_encode i, (fieldError_expand i).trans hi⟩

/-- A word that encodes a well-formed machine instruction decodes to it. -/
theorem decode_of_encode_eq {w : Word} {i : Instr} (hw : encode i = w) (hi : i.WellFormed) (he : i.expand = i) :
    decode w = .ok i := by
  rw [← hw, encodedInstructionDecodesBack i hi, he]

/-- Settles O9: each word, written out from the tables, is the encoding of its instruction. -/
theorem decodingOfSpecWords : Obligations.DecodingOfSpecWords :=
  ⟨decode_of_encode_eq rfl rfl rfl, decode_of_encode_eq rfl rfl rfl, decode_of_encode_eq rfl rfl rfl,
    decode_of_encode_eq rfl rfl rfl, decode_of_encode_eq rfl rfl rfl, decode_of_encode_eq rfl rfl rfl,
    decode_of_encode_eq rfl rfl rfl⟩

end Sys2Proof
end

section
/-! SUPPORT. Decode, then encode: what kind of word a decoded word is, and that its fields make up the word again
(30_encoding.md R200, R206, R235 to R248). -/

namespace Sys2Proof

/-! ## The p-bit -/

theorem extract_clearP (w : Word) {start len : Nat} (h : 1 ≤ start) (h' : start + len ≤ 32) :
    (w &&& 0xFFFFFFFE).extractLsb' start len = w.extractLsb' start len := by
  refine Machine.extract_and_keep w _ start len fun i hi => ?_
  have above : ∀ k < 32, 1 ≤ k → (0xFFFFFFFE : Word).getLsbD k = true := by decide
  exact above _ (by omega) (by omega)

theorem getLsbD_clearP (w : Word) {k : Nat} (h : 1 ≤ k) (h' : k < 32) : (w &&& 0xFFFFFFFE).getLsbD k = w.getLsbD k := by
  rw [getLsbD_eq_extract, extract_clearP w h h', ← getLsbD_eq_extract]

/-- The decoder reads no field that holds bit 0. -/
theorem decode_clearP (w : Word) : decode (w &&& 0xFFFFFFFE) = decode w := by
  simp (disch := decide) only [decode, decodeFormat, decodeMem, decodeMem15, decodeL, decodeMvk, decodeField, decodeS,
    decodeM, decodeNop, decodeD, decodeAddk, decodeBr, wordCond, wordOps3, wordOpsD, wordOpsK, wordOpsField, wordOpsBr,
    wordOpsRet, wordOpsMem, wordOpsMem15, wordSide, extract_clearP, getLsbD_clearP]

/-! ## The kinds of words -/

/-- What the decoder found in a word: the fixed bits of its format, its op, and the operands in its fields. -/
inductive OfFormat (w : Word) : Instr → Prop where
  | l {f : Ops3 → Instr} {c : Cond} : w.extractLsb' 2 3 = 0b110 → (w.extractLsb' 5 7, f) ∈ opsL → wordCond w = .ok c →
      OfFormat w (f (wordOps3 w c))
  | m {f : Ops3 → Instr} {c : Cond} : w.extractLsb' 2 5 = 0b00000 → w.extractLsb' 7 5 ≠ 0 →
      (w.extractLsb' 7 5, f) ∈ opsM → wordCond w = .ok c → OfFormat w (f (wordOps3 w c))
  | s {f : Ops3 → Instr} {c : Cond} : w.extractLsb' 2 4 = 0b1000 → (w.extractLsb' 6 6, f) ∈ opsS → wordCond w = .ok c →
      OfFormat w (f (wordOps3 w c))
  | irp {c : Cond} : w.extractLsb' 2 4 = 0b1000 → w.extractLsb' 6 6 = 0b000011 → w.extractLsb' 18 5 = 0b00110 →
      wordCond w = .ok c → OfFormat w (.bIrp (wordOpsRet w c))
  | nrp {c : Cond} : w.extractLsb' 2 4 = 0b1000 → w.extractLsb' 6 6 = 0b000011 → w.extractLsb' 18 5 = 0b00111 →
      wordCond w = .ok c → OfFormat w (.bNrp (wordOpsRet w c))
  | d {f : OpsD → Instr} {c : Cond} : w.extractLsb' 2 5 = 0b10000 → (w.extractLsb' 7 6, f) ∈ opsD → wordCond w = .ok c →
      OfFormat w (f (wordOpsD w c))
  | addk {c : Cond} : w.extractLsb' 2 5 = 0b10100 → wordCond w = .ok c → OfFormat w (.addk (wordOpsK w c))
  | mvk {c : Cond} : w.extractLsb' 2 5 = 0b01010 → wordCond w = .ok c → OfFormat w (.mvk (wordOpsK w c))
  | mvkh {c : Cond} : w.extractLsb' 2 5 = 0b11010 → wordCond w = .ok c → OfFormat w (.mvkh (wordOpsK w c))
  | field {f : OpsField → Instr} {c : Cond} : w.extractLsb' 2 4 = 0b0010 → (w.extractLsb' 6 2, f) ∈ opsField →
      wordCond w = .ok c → OfFormat w (f (wordOpsField w c))
  | br {c : Cond} : w.extractLsb' 2 5 = 0b00100 → wordCond w = .ok c → OfFormat w (.bDisp (wordOpsBr w c))
  | mem {f : OpsMem → Instr} {c : Cond} {a : AddrMode} : w.extractLsb' 2 2 = 0b01 → (w.extractLsb' 4 3, f) ∈ opsMem →
      wordCond w = .ok c → w.getLsbD 8 = false → AddrMode.ofBits (w.extractLsb' 9 4) = some a →
      OfFormat w (f (wordOpsMem w c a))
  | mem15 {f : OpsMem15 → Instr} {c : Cond} : w.extractLsb' 2 2 = 0b11 → (w.extractLsb' 4 3, f) ∈ opsMem15 →
      wordCond w = .ok c → OfFormat w (f (wordOpsMem15 w c))
  | nop : w.extractLsb' 1 12 = 0 → w.extractLsb' 17 15 = 0 → w.getLsbD 16 = false →
      OfFormat w (.nop (w.extractLsb' 13 3))
  | nop9 : w.extractLsb' 1 12 = 0 → w.extractLsb' 17 15 = 0 → w.extractLsb' 13 4 = 8 → OfFormat w .nop9
  | idle : w.extractLsb' 1 12 = 0 → w.extractLsb' 17 15 = 0 → w.extractLsb' 13 4 = 15 → OfFormat w .idle

/-- Neighbouring fields as one. -/
theorem extract_join {w : Word} {start n mid m : Nat} {hi : BitVec m} {lo : BitVec n}
    (hhi : w.extractLsb' mid m = hi) (hlo : w.extractLsb' start n = lo) (hmid : mid = start + n := by rfl) :
    w.extractLsb' start (m + n) = hi ++ lo := by
  rw [← hhi, ← hlo, BitVec.extractLsb'_append_extractLsb'_eq_extractLsb' hmid]

theorem extract_bit (w : Word) (k : Nat) : w.extractLsb' k 1 = BitVec.ofBool (w.getLsbD k) := by
  apply BitVec.eq_of_getLsbD_eq
  intro i hi
  obtain rfl : i = 0 := by omega
  simp

theorem extract_bit_of {w : Word} {k : Nat} {b : Bool} (h : w.getLsbD k = b) : w.extractLsb' k 1 = BitVec.ofBool b := by
  rw [extract_bit, h]

/-- A decoding step that answers, taken apart. -/
theorem decoding_ok {α β : Type} {x : Except DecodeError α} {f : α → Except DecodeError β} {b : β} :
    (x >>= f) = .ok b ↔ ∃ a, x = .ok a ∧ f a = .ok b := by
  cases x <;> simp [bind, Except.bind]

theorem listedOp_ok {n : Nat} {α : Type} {table : List (BitVec n × α)} {op : BitVec n} {f : α}
    (h : listedOp table op = .ok f) : (op, f) ∈ table := by
  unfold listedOp at h
  split at h
  next g hg =>
    cases h
    obtain ⟨before, after, rfl, -⟩ := List.lookup_eq_some_iff.mp hg
    simp
  next => cases h

section
variable {w : Word} {i : Instr}

/-- A format with an op table that answers: an op of its table, a condition, and what it makes of the two. -/
theorem listed_cond_ok {n : Nat} {α : Type} {table : List (BitVec n × α)} {op : BitVec n}
    {make : α → Cond → Except DecodeError Instr}
    (h : (do let f ← listedOp table op; let c ← wordCond w; make f c) = .ok i) :
    ∃ f c, (op, f) ∈ table ∧ wordCond w = .ok c ∧ make f c = .ok i := by
  obtain ⟨f, hf, h⟩ := decoding_ok.mp h
  obtain ⟨c, hc, h⟩ := decoding_ok.mp h
  exact ⟨f, c, listedOp_ok hf, hc, h⟩

theorem decodeL_ok (shape : w.extractLsb' 2 3 = 0b110) (h : decodeL w = .ok i) : OfFormat w i := by
  obtain ⟨f, c, hf, hc, hi⟩ := listed_cond_ok h
  cases hi
  exact .l shape hf hc

theorem decodeNop_ok (h : decodeNop w = .ok i) : OfFormat w i := by
  unfold decodeNop at h
  split at h
  next reserved =>
    obtain ⟨high, low⟩ := reserved
    split at h
    next hsrc => cases h; exact .idle low high hsrc
    split at h
    next hsrc => cases h; exact .nop9 low high hsrc
    split at h
    next hsrc =>
      cases h
      have topBit : ∀ v : BitVec 4, v < 8 → v.getLsbD 3 = false := by decide
      exact .nop low high (by simpa using topBit _ hsrc)
    next => cases h
  next => cases h

theorem decodeM_ok (shape : w.extractLsb' 2 5 = 0b00000) (h : decodeM w = .ok i) : OfFormat w i := by
  unfold decodeM at h
  split at h
  next => exact decodeNop_ok h
  next hop =>
    obtain ⟨f, c, hf, hc, hi⟩ := listed_cond_ok h
    cases hi
    exact .m shape hop hf hc

theorem decodeS_ok (shape : w.extractLsb' 2 4 = 0b1000) (h : decodeS w = .ok i) : OfFormat w i := by
  unfold decodeS at h
  split at h
  next hop =>
    split at h
    next hsrc2 => obtain ⟨c, hc, hi⟩ := decoding_ok.mp h; cases hi; exact .irp shape hop hsrc2 hc
    split at h
    next hsrc2 => obtain ⟨c, hc, hi⟩ := decoding_ok.mp h; cases hi; exact .nrp shape hop hsrc2 hc
    next => cases h
  next =>
    obtain ⟨f, c, hf, hc, hi⟩ := listed_cond_ok h
    cases hi
    exact .s shape hf hc

theorem decodeD_ok (shape : w.extractLsb' 2 5 = 0b10000) (h : decodeD w = .ok i) : OfFormat w i := by
  obtain ⟨f, c, hf, hc, hi⟩ := listed_cond_ok h
  cases hi
  exact .d shape hf hc

theorem decodeAddk_ok (shape : w.extractLsb' 2 5 = 0b10100) (h : decodeAddk w = .ok i) : OfFormat w i := by
  obtain ⟨c, hc, hi⟩ := decoding_ok.mp h
  cases hi
  exact .addk shape hc

/-- Bit 6 chooses between MVK and MVKH (R240). -/
theorem decodeMvk_ok (shape : w.extractLsb' 2 4 = 0b1010) (h : decodeMvk w = .ok i) : OfFormat w i := by
  obtain ⟨c, hc, hi⟩ := decoding_ok.mp h
  cases hi
  cases h6 : w.getLsbD 6 with
  | true => exact .mvkh (extract_join (extract_bit_of h6) shape) hc
  | false => exact .mvk (extract_join (extract_bit_of h6) shape) hc

theorem decodeField_ok (shape : w.extractLsb' 2 4 = 0b0010) (h : decodeField w = .ok i) : OfFormat w i := by
  obtain ⟨f, c, hf, hc, hi⟩ := listed_cond_ok h
  cases hi
  exact .field shape hf hc

theorem decodeBr_ok (shape : w.extractLsb' 2 5 = 0b00100) (h : decodeBr w = .ok i) : OfFormat w i := by
  obtain ⟨c, hc, hi⟩ := decoding_ok.mp h
  cases hi
  exact .br shape hc

theorem decodeMem_ok (shape : w.extractLsb' 2 2 = 0b01) (h : decodeMem w = .ok i) : OfFormat w i := by
  obtain ⟨f, c, hf, hc, hi⟩ := listed_cond_ok h
  split at hi
  next => cases hi
  next hr =>
    split at hi
    next a ha => cases hi; exact .mem shape hf hc (Bool.eq_false_iff.mpr hr) ha
    next => cases hi

theorem decodeMem15_ok (shape : w.extractLsb' 2 2 = 0b11) (h : decodeMem15 w = .ok i) : OfFormat w i := by
  obtain ⟨f, c, hf, hc, hi⟩ := listed_cond_ok h
  cases hi
  exact .mem15 shape hf hc

/-- The tree of R247, read backwards: bits 3 and 2 first, then those above. -/
theorem ofFormat_of_decodeFormat (h : decodeFormat w = .ok i) : OfFormat w i := by
  unfold decodeFormat at h
  split at h
  next h2 => exact decodeMem_ok h2 h
  split at h
  next h2 => exact decodeMem15_ok h2 h
  split at h
  next h2 =>
    split at h
    next h4 => exact decodeL_ok (extract_join (extract_bit_of h4) h2) h
    next h4 =>
      have h24 := extract_join (extract_bit_of (Bool.eq_false_iff.mpr h4)) h2
      split at h
      next h5 => exact decodeMvk_ok (extract_join (extract_bit_of h5) h24) h
      next h5 => exact decodeField_ok (extract_join (extract_bit_of (Bool.eq_false_iff.mpr h5)) h24) h
  next n01 n11 n10 =>
    have zero : ∀ v : BitVec 2, v ≠ 0b01 → v ≠ 0b11 → v ≠ 0b10 → v = 0b00 := by decide
    have h2 := zero _ n01 n11 n10
    split at h
    next h4 => exact decodeS_ok (extract_join h4 h2) h
    split at h
    next h4 => exact decodeM_ok (extract_join h4 h2) h
    split at h
    next h4 => exact decodeD_ok (extract_join h4 h2) h
    split at h
    next h4 => exact decodeAddk_ok (extract_join h4 h2) h
    split at h
    next h4 => exact decodeBr_ok (extract_join h4 h2) h
    next => cases h

/-- What decodes is of a format. -/
theorem ofFormat_of_decode (h : decode w = .ok i) : OfFormat w i :=
  ofFormat_of_decodeFormat (decode_eq_ok_iff.mp h).1

/-! ## The word from its fields -/

/-- The fields creg and z. -/
theorem extract_cond {c : Cond} (h : wordCond w = .ok c) : w.extractLsb' 28 4 = c.bits := by
  have bits : ∀ (r : BitVec 3) (z : Bool), (Cond.ofBits r z).toOption.all (fun c => r ++ BitVec.ofBool z == c.bits) := by
    decide
  have hbits := bits (w.extractLsb' 29 3) (w.getLsbD 28)
  unfold wordCond at h
  rw [h] at hbits
  exact (extract_join rfl (extract_bit w 28)).trans (eq_of_beq hbits)

@[simp] theorem Side.bit_ofBit (b : Bool) : (Side.ofBit b).bit = b := by cases b <;> rfl

theorem extract_side (hp : w.getLsbD 0 = false) : w.extractLsb' 0 2 = sideBits (wordSide w) := by
  rw [sideBits, wordSide, Side.bit_ofBit]
  exact extract_join (extract_bit w 1) (extract_bit_of hp)

theorem mode_eq_bits {m : BitVec 4} {a : AddrMode} (h : AddrMode.ofBits m = some a) : m = a.bits := by
  have bits : ∀ m : BitVec 4, (AddrMode.ofBits m).all (fun a => m == a.bits) := by decide
  have hbits := bits m
  rw [h] at hbits
  exact eq_of_beq hbits

section
variable {c : Cond} (hp : w.getLsbD 0 = false) (hc : wordCond w = .ok c)
include hp hc

theorem encode3_wordOps3 {op : BitVec 10} (hop : w.extractLsb' 2 10 = op) : encode3 (wordOps3 w c) op = w := by
  have dst := extract_join (extract_cond hc) (rfl : w.extractLsb' 23 5 = _)
  have src2 := extract_join dst (rfl : w.extractLsb' 18 5 = _)
  have src1 := extract_join src2 (rfl : w.extractLsb' 13 5 = _)
  have x := extract_join src1 (extract_bit w 12)
  exact (extract_join (extract_join x hop) (extract_side hp)).symm.trans (extract_whole w)

theorem encodeRet_wordOpsRet {src2 : BitVec 5} (shape : w.extractLsb' 2 4 = 0b1000) (hop : w.extractLsb' 6 6 = 0b000011)
    (hsrc2 : w.extractLsb' 18 5 = src2) : encodeRet src2 (wordOpsRet w c) = w := by
  subst hsrc2
  exact encode3_wordOps3 hp hc (extract_join hop shape)

theorem encodeD_wordOpsD {op : BitVec 6} (shape : w.extractLsb' 2 5 = 0b10000) (hop : w.extractLsb' 7 6 = op) :
    encodeD op (wordOpsD w c) = w := by
  have dst := extract_join (extract_cond hc) (rfl : w.extractLsb' 23 5 = _)
  have src2 := extract_join dst (rfl : w.extractLsb' 18 5 = _)
  have src1 := extract_join src2 (rfl : w.extractLsb' 13 5 = _)
  have fixed := extract_join (extract_join src1 hop) shape
  exact (extract_join fixed (extract_side hp)).symm.trans (extract_whole w)

theorem encodeK_wordOpsK {low : BitVec 5} (shape : w.extractLsb' 2 5 = low) : encodeK low (wordOpsK w c) = w := by
  have dst := extract_join (extract_cond hc) (rfl : w.extractLsb' 23 5 = _)
  have cst := extract_join dst (rfl : w.extractLsb' 7 16 = _)
  exact (extract_join (extract_join cst shape) (extract_side hp)).symm.trans (extract_whole w)

theorem encodeField_wordOpsField {op : BitVec 2} (shape : w.extractLsb' 2 4 = 0b0010) (hop : w.extractLsb' 6 2 = op) :
    encodeField op (wordOpsField w c) = w := by
  have dst := extract_join (extract_cond hc) (rfl : w.extractLsb' 23 5 = _)
  have src2 := extract_join dst (rfl : w.extractLsb' 18 5 = _)
  have csta := extract_join src2 (rfl : w.extractLsb' 13 5 = _)
  have cstb := extract_join csta (rfl : w.extractLsb' 8 5 = _)
  have fixed := extract_join (extract_join cstb hop) shape
  exact (extract_join fixed (extract_side hp)).symm.trans (extract_whole w)

theorem encodeBr_wordOpsBr (shape : w.extractLsb' 2 5 = 0b00100) : encodeBr (wordOpsBr w c) = w := by
  have cst := extract_join (extract_cond hc) (rfl : w.extractLsb' 7 21 = _)
  exact (extract_join (extract_join cst shape) (extract_side hp)).symm.trans (extract_whole w)

theorem encodeMem_wordOpsMem {op : BitVec 3} {a : AddrMode} (shape : w.extractLsb' 2 2 = 0b01)
    (hop : w.extractLsb' 4 3 = op) (hr : w.getLsbD 8 = false) (ha : AddrMode.ofBits (w.extractLsb' 9 4) = some a) :
    encodeMem op (wordOpsMem w c a) = w := by
  have data := extract_join (extract_cond hc) (rfl : w.extractLsb' 23 5 = _)
  have base := extract_join data (rfl : w.extractLsb' 18 5 = _)
  have offset := extract_join base (rfl : w.extractLsb' 13 5 = _)
  have mode := extract_join offset (mode_eq_bits ha)
  have y := extract_join (extract_join mode (extract_bit_of hr)) (extract_bit w 7)
  have fixed := extract_join (extract_join y hop) shape
  unfold encodeMem wordOpsMem
  rw [Side.bit_ofBit]
  exact (extract_join fixed (extract_side hp)).symm.trans (extract_whole w)

theorem encodeMem15_wordOpsMem15 {op : BitVec 3} (shape : w.extractLsb' 2 2 = 0b11) (hop : w.extractLsb' 4 3 = op) :
    encodeMem15 op (wordOpsMem15 w c) = w := by
  have data := extract_join (extract_cond hc) (rfl : w.extractLsb' 23 5 = _)
  have offset := extract_join data (rfl : w.extractLsb' 8 15 = _)
  have y := extract_join offset (extract_bit w 7)
  have fixed := extract_join (extract_join y hop) shape
  exact (extract_join fixed (extract_side hp)).symm.trans (extract_whole w)

end

theorem encodeNop_word {src : BitVec 4} (hp : w.getLsbD 0 = false) (low : w.extractLsb' 1 12 = 0)
    (high : w.extractLsb' 17 15 = 0) (hsrc : w.extractLsb' 13 4 = src) : encodeNop src = w :=
  (extract_join (extract_join high hsrc) (extract_join low (extract_bit_of hp))).symm.trans (extract_whole w)

end

/-! ## The op tables and the encoder agree -/

theorem encode_opsL : ∀ e ∈ opsL, ∀ o, encode (e.2 o) = encodeL e.1 o := by
  simp only [opsL, List.forall_mem_append, List.forall_mem_cons, List.not_mem_nil, false_implies, implies_true,
    and_true]
  and_intros <;> intro o <;> rfl

theorem encode_opsM : ∀ e ∈ opsM, ∀ o, encode (e.2 o) = encodeM e.1 o := by
  simp only [opsM, List.forall_mem_append, List.forall_mem_cons, List.not_mem_nil, false_implies, implies_true,
    and_true]
  and_intros <;> intro o <;> rfl

theorem encode_opsS : ∀ e ∈ opsS, ∀ o, encode (e.2 o) = encodeS e.1 o := by
  simp only [opsS, List.forall_mem_append, List.forall_mem_cons, List.not_mem_nil, false_implies, implies_true,
    and_true]
  and_intros <;> intro o <;> rfl

theorem encode_opsD : ∀ e ∈ opsD, ∀ o, encode (e.2 o) = encodeD e.1 o := by
  simp only [opsD, List.forall_mem_cons, List.not_mem_nil, false_implies, implies_true, and_true]
  and_intros <;> intro o <;> rfl

theorem encode_opsField : ∀ e ∈ opsField, ∀ o, encode (e.2 o) = encodeField e.1 o := by
  simp only [opsField, List.forall_mem_cons, List.not_mem_nil, false_implies, implies_true, and_true]
  and_intros <;> intro o <;> rfl

theorem encode_opsMem : ∀ e ∈ opsMem, ∀ o, encode (e.2 o) = encodeMem e.1 o := by
  simp only [opsMem, List.forall_mem_cons, List.not_mem_nil, false_implies, implies_true, and_true]
  and_intros <;> intro o <;> rfl

theorem encode_opsMem15 : ∀ e ∈ opsMem15, ∀ o, encode (e.2 o) = encodeMem15 e.1 o := by
  simp only [opsMem15, List.forall_mem_cons, List.not_mem_nil, false_implies, implies_true, and_true]
  and_intros <;> intro o <;> rfl

/-- The fields that the decoder found, encoded, are the word they were found in. -/
theorem encode_of_ofFormat {w : Word} {i : Instr} (hp : w.getLsbD 0 = false) (h : OfFormat w i) : encode i = w := by
  cases h with
  | l shape hf hc => exact (encode_opsL _ hf _).trans (encode3_wordOps3 hp hc (extract_join rfl shape))
  | m shape _ hf hc => exact (encode_opsM _ hf _).trans (encode3_wordOps3 hp hc (extract_join rfl shape))
  | s shape hf hc => exact (encode_opsS _ hf _).trans (encode3_wordOps3 hp hc (extract_join rfl shape))
  | irp shape hop hsrc2 hc | nrp shape hop hsrc2 hc => exact encodeRet_wordOpsRet hp hc shape hop hsrc2
  | d shape hf hc => exact (encode_opsD _ hf _).trans (encodeD_wordOpsD hp hc shape rfl)
  | addk shape hc | mvk shape hc | mvkh shape hc => exact encodeK_wordOpsK hp hc shape
  | field shape hf hc => exact (encode_opsField _ hf _).trans (encodeField_wordOpsField hp hc shape rfl)
  | br shape hc => exact encodeBr_wordOpsBr hp hc shape
  | mem shape hf hc hr ha => exact (encode_opsMem _ hf _).trans (encodeMem_wordOpsMem hp hc shape rfl hr ha)
  | mem15 shape hf hc => exact (encode_opsMem15 _ hf _).trans (encodeMem15_wordOpsMem15 hp hc shape rfl)
  | nop low high h16 => exact encodeNop_word hp low high (extract_join (extract_bit_of h16) (rfl : w.extractLsb' 13 3 = _))
  | nop9 low high hsrc | idle low high hsrc => exact encodeNop_word hp low high hsrc

/-- Settles O6: the decoder does not see the p-bit, and a word without it is made up of the fields found in it. -/
theorem decodedWordEncodesBack : Obligations.DecodedWordEncodesBack := by
  intro w i h
  rw [← decode_clearP] at h
  exact encode_of_ofFormat (by simp) (ofFormat_of_decode h)

/-- Settles O7: a decoded instruction has passed the field checks, and so its word, which encodes it, decodes to what it
stands for. -/
theorem decodedInstructionIsWellFormed : Obligations.DecodedInstructionIsWellFormed := by
  intro w
  have clear_or : (w ||| 1) &&& 0xFFFFFFFE = w &&& 0xFFFFFFFE := by rw [Machine.mask_or]; simp
  refine ⟨by rw [← clear_or, decode_clearP], fun i h => ?_⟩
  obtain ⟨-, hwf⟩ := decode_eq_ok_iff.mp h
  have hexpand := encodedInstructionDecodesBack i hwf
  rw [decodedWordEncodesBack w i h, decode_clearP, h] at hexpand
  exact ⟨hwf, (Except.ok.inj hexpand).symm⟩

end Sys2Proof
end

section
/-! SUPPORT. Words that are no instruction (30_encoding.md R214, R232, R245, R248): the fields of a decoded word as
numbers. -/

namespace Sys2Proof

/-- A field with a known value, as a number. -/
theorem toNat_field {w : Word} {start len : Nat} {v : BitVec len} (h : w.extractLsb' start len = v) :
    w.toNat / 2 ^ start % 2 ^ len = v.toNat := by
  rw [Machine.div_mod_eq_extract, h]

/-- The reserved values of creg and z belong to no condition (R214). -/
theorem Cond.bits_toNat (c : Cond) : c.bits.toNat ≠ 1 ∧ c.bits.toNat < 12 := by
  cases c with
  | always => decide
  | nonzero r | zero r => cases r <;> decide

/-- The four values that Table 3-6 does not list belong to no mode (43_load_store.md R553). -/
theorem AddrMode.bits_toNat (a : AddrMode) :
    a.bits.toNat ≠ 2 ∧ a.bits.toNat ≠ 3 ∧ a.bits.toNat ≠ 6 ∧ a.bits.toNat ≠ 7 := by
  cases a <;> decide

namespace OfFormat
variable {w : Word} {i : Instr}

/-- Bits 31 to 28 of a decoded word are those of a condition; NOP and IDLE have zeros there. -/
theorem cond (h : OfFormat w i) : ∃ c : Cond, w.toNat / 2 ^ 28 = c.bits.toNat := by
  have top : w.toNat / 2 ^ 28 % 2 ^ 4 = w.toNat / 2 ^ 28 := by have := w.isLt; omega
  cases h with
  | nop _ high | nop9 _ high | idle _ high =>
    have zero : w.toNat / 2 ^ 17 % 2 ^ 15 = 0 := toNat_field high
    exact ⟨.always, show w.toNat / 2 ^ 28 = 0 by omega⟩
  | l _ _ hc | m _ _ _ hc | s _ _ hc | irp _ _ _ hc | nrp _ _ _ hc | d _ _ hc | addk _ hc | mvk _ hc | mvkh _ hc
  | field _ _ hc | br _ hc | mem _ _ hc | mem15 _ _ hc => exact ⟨_, top.symm.trans (toNat_field (extract_cond hc))⟩

/-- A decoded word is a load or store with base and offset, or NOP or IDLE, or of a format that has neither shape. -/
theorem shape (h : OfFormat w i) :
    (w.toNat / 4 % 4 = 1 ∧ w.toNat / 2 ^ 8 % 2 = 0 ∧ ∃ a : AddrMode, w.toNat / 2 ^ 9 % 16 = a.bits.toNat)
    ∨ (w.toNat / 2 ^ 17 = 0 ∧ w.toNat / 2 % 2 ^ 12 = 0 ∧ (w.toNat / 2 ^ 13 % 16 ≤ 8 ∨ w.toNat / 2 ^ 13 % 16 = 15))
    ∨ (w.toNat / 4 % 4 ≠ 1 ∧ w.toNat / 4 % 32 ≠ 0b01100 ∧ w.toNat / 4 % 32 ≠ 0b11100
      ∧ (w.toNat / 4 % 32 = 0 → w.toNat / 2 ^ 7 % 32 ≠ 0)) := by
  have := w.isLt
  cases h with
  | mem low _ _ hr ha =>
    exact .inl ⟨toNat_field low, toNat_field (extract_bit_of hr), _, toNat_field (mode_eq_bits ha)⟩
  | nop low high h16 =>
    have h16 : w.toNat / 2 ^ 16 % 2 = 0 := toNat_field (extract_bit_of h16)
    have low : w.toNat / 2 % 2 ^ 12 = 0 := toNat_field low
    have high : w.toNat / 2 ^ 17 % 2 ^ 15 = 0 := toNat_field high
    exact .inr (.inl (by omega))
  | nop9 low high src =>
    have src : w.toNat / 2 ^ 13 % 16 = 8 := toNat_field src
    have low : w.toNat / 2 % 2 ^ 12 = 0 := toNat_field low
    have high : w.toNat / 2 ^ 17 % 2 ^ 15 = 0 := toNat_field high
    exact .inr (.inl (by omega))
  | idle low high src =>
    have src : w.toNat / 2 ^ 13 % 16 = 15 := toNat_field src
    have low : w.toNat / 2 % 2 ^ 12 = 0 := toNat_field low
    have high : w.toNat / 2 ^ 17 % 2 ^ 15 = 0 := toNat_field high
    exact .inr (.inl (by omega))
  | m low hop =>
    have hop : w.toNat / 2 ^ 7 % 32 ≠ 0 := fun h0 => hop (BitVec.eq_of_toNat_eq (by
      rw [← Machine.div_mod_eq_extract]; exact h0))
    have low : w.toNat / 4 % 32 = 0 := toNat_field low
    exact .inr (.inr (by omega))
  | mem15 low => have : w.toNat / 4 % 4 = 3 := toNat_field low; omega
  | l low => have : w.toNat / 4 % 8 = 0b110 := toNat_field low; omega
  | s low | irp low | nrp low => have : w.toNat / 4 % 16 = 0b1000 := toNat_field low; omega
  | field low => have : w.toNat / 4 % 16 = 0b0010 := toNat_field low; omega
  | d low => have : w.toNat / 4 % 32 = 0b10000 := toNat_field low; omega
  | addk low => have : w.toNat / 4 % 32 = 0b10100 := toNat_field low; omega
  | mvk low => have : w.toNat / 4 % 32 = 0b01010 := toNat_field low; omega
  | mvkh low => have : w.toNat / 4 % 32 = 0b11010 := toNat_field low; omega
  | br low => have : w.toNat / 4 % 32 = 0b00100 := toNat_field low; omega

end OfFormat

/-- Settles O8: a word that decodes has the bits of a condition, and one of the three shapes. -/
theorem illegalWordsDoNotDecode : Obligations.IllegalWordsDoNotDecode := by
  intro w i
  dsimp only
  refine ⟨fun hcond h => ?_, fun hlow h => ?_, fun hmem hbad h => ?_, fun hlow hop hbad h => ?_⟩ <;>
    replace h := ofFormat_of_decode h
  · obtain ⟨c, hc⟩ := h.cond
    have := c.bits_toNat
    omega
  · have := h.shape
    omega
  · obtain ⟨-, hr, a, ha⟩ | h | h := h.shape
    · have := a.bits_toNat
      omega
    · omega
    · omega
  · have := h.shape
    omega

end Sys2Proof
end

section
/-! SUPPORT. The chain of p-bits (30_encoding.md R206, R207, R208). -/

namespace Sys2Proof.Machine

/-- The last word of a fetch packet, as the model tests for it. -/
theorem lastSlot_iff (a : Word) : a.extractLsb' 0 5 = 28 ↔ a.toNat % 32 = 28 := by
  rw [← BitVec.toNat_inj, ← mod_eq_extract]
  rfl

section
variable {s : State} {a w : Word} {n : Nat}

/-- A word with p = 0 ends the packet. -/
theorem fetchChain_last (h : s.fetchWord a = .ok w) (hp : w.getLsbD 0 = false) : s.fetchChain (n + 1) a = .ok [w] := by
  simp only [State.fetchChain, h, hp, bind, Except.bind, Bool.false_eq_true, if_false]

/-- The last word of a fetch packet with p = 1 has no successor. -/
theorem fetchChain_crosses (h : s.fetchWord a = .ok w) (hp : w.getLsbD 0 = true) (ha : a.toNat % 32 = 28) :
    s.fetchChain (n + 1) a = .error (.refused (.illegalPacket .crossesFetchPacket)) := by
  simp only [State.fetchChain, h, hp, (lastSlot_iff a).mpr ha, bind, Except.bind, if_true]

/-- A word with p = 1 before the last of its fetch packet is followed by the next one. -/
theorem fetchChain_more (h : s.fetchWord a = .ok w) (hp : w.getLsbD 0 = true) (ha : a.toNat % 32 ≠ 28) :
    s.fetchChain (n + 1) a = (do let ws ← s.fetchChain n (a + 4); .ok (w :: ws)) := by
  simp only [State.fetchChain, h, hp, mt (lastSlot_iff a).mp ha, bind, Except.bind, if_true, if_false]

end

section
variable {s : State} {a : Word} {w : Nat → Word} {k : Nat}

/-- The place in its fetch packet of a word k words on. -/
theorem word_place (ha : a.toNat % 4 = 0) (hk : a.toNat % 32 / 4 + k ≤ 7) :
    (a + BitVec.ofNat 32 (4 * k)).toNat % 32 = a.toNat % 32 + 4 * k := by
  have hlt : 4 * k < 2 ^ 32 := by omega
  rw [BitVec.toNat_add, BitVec.toNat_ofNat, Nat.mod_eq_of_lt hlt]
  omega

/-- Over k words with p = 1 the chain goes on to the word after them. -/
theorem fetchChain_append (ha : a.toNat % 4 = 0) (hk : a.toNat % 32 / 4 + k ≤ 7)
    (hw : ∀ j < k, s.fetchWord (a + BitVec.ofNat 32 (4 * j)) = .ok (w j)) (hp : ∀ j < k, (w j).getLsbD 0 = true)
    (n : Nat) :
    s.fetchChain (k + n) a = (do
      let ws ← s.fetchChain n (a + BitVec.ofNat 32 (4 * k))
      .ok ((List.range k).map w ++ ws)) := by
  induction k generalizing n with
  | zero => cases h : s.fetchChain n a <;> simp [h, bind, Except.bind]
  | succ k ih =>
    have hplace := word_place (k := k) ha (by omega)
    have hnext : a + BitVec.ofNat 32 (4 * k) + 4 = a + BitVec.ofNat 32 (4 * (k + 1)) := by
      rw [BitVec.add_assoc, Nat.mul_add, BitVec.ofNat_add]
      rfl
    have hmore := fetchChain_more (n := n) (hw k (by omega)) (hp k (by omega)) (by omega)
    have hrest := ih (by omega) (fun j hj => hw j (by omega)) (fun j hj => hp j (by omega)) (n + 1)
    rw [show k + 1 + n = k + (n + 1) by omega, hrest, hmore, hnext]
    cases s.fetchChain n (a + BitVec.ofNat 32 (4 * (k + 1))) <;> simp [bind, Except.bind, List.range_succ]

end

/-- Settles O12: the chain goes over the k words with p = 1, and the next word ends it or has no successor. -/
theorem packetEndsAtTheFirstClearPBit : Obligations.PacketEndsAtTheFirstClearPBit := by
  intro s w k ha hk hw hp
  have hpc : s.pc.extractLsb' 0 2 = 0 := BitVec.eq_of_toNat_eq (by rw [← mod_eq_extract]; exact ha)
  have hchain := fetchChain_append ha hk (fun j hj => hw j (by omega)) hp (7 - k + 1)
  rw [show k + (7 - k + 1) = 8 by omega] at hchain
  have hfetch : s.fetchPacket = s.fetchChain 8 s.pc := by simp [State.fetchPacket, hpc]
  rw [hfetch, hchain]
  refine ⟨fun hclear => ?_, fun hset hlast => ?_⟩
  · rw [fetchChain_last (hw k (Nat.le_refl k)) hclear, List.range_succ, List.map_append]
    rfl
  · have hplace := word_place ha hk
    rw [fetchChain_crosses (hw k (Nat.le_refl k)) hset (by omega)]
    rfl

end Sys2Proof.Machine
end

section
/-! SUPPORT. Instructions whose condition is false (30_encoding.md R212, R213, 44_branch.md R604). -/

namespace Sys2Proof.Machine

/-! ## The condition of an encoded word -/

theorem wordCond_encode3 (o : Ops3) (op : BitVec 10) : wordCond (encode3 o op) = .ok o.cond :=
  wordCond_of_bits _ _ (encode3_cond o op)

theorem wordCond_encodeD (o : OpsD) (op : BitVec 6) : wordCond (encodeD op o) = .ok o.cond :=
  wordCond_of_bits _ _ (encodeD_cond o op)

theorem wordCond_encodeK (o : OpsK) (low : BitVec 5) : wordCond (encodeK low o) = .ok o.cond :=
  wordCond_of_bits _ _ (encodeK_cond o low)

theorem wordCond_encodeField (o : OpsField) (op : BitVec 2) : wordCond (encodeField op o) = .ok o.cond :=
  wordCond_of_bits _ _ (encodeField_cond o op)

theorem wordCond_encodeMem (o : OpsMem) (op : BitVec 3) : wordCond (encodeMem op o) = .ok o.cond :=
  wordCond_of_bits _ _ (encodeMem_cond o op)

theorem wordCond_encodeMem15 (o : OpsMem15) (op : BitVec 3) : wordCond (encodeMem15 op o) = .ok o.cond :=
  wordCond_of_bits _ _ (encodeMem15_cond o op)

/-- NOP and IDLE have no condition field; what stands there is the condition that always holds. -/
theorem wordCond_encodeNop (src : BitVec 4) : wordCond (encodeNop src) = .ok .always := by
  refine wordCond_of_bits _ _ ?_
  refine (BitVec.extractLsb'_append_eq_of_le (by omega)).trans ?_
  exact (BitVec.extractLsb'_append_eq_of_le (by omega)).trans rfl

/-! ## The shared forms of the meanings -/

section
variable {s : State} {c d : Cond} {v : Word}

/-- What is done on the condition of the word is not done when that is false. -/
theorem onCond_of_wordCond {k : Out} (hd : wordCond v = .ok d) (hc : wordCond v = .ok c) (hf : s.holds c = false) :
    s.onCond d k = .next s := by
  obtain rfl : d = c := Except.ok.inj (hd.symm.trans hc)
  exact onCond_not k hf

/-- Of two results on the condition of the word neither is written when that is false. -/
theorem choice_of_wordCond {b : Bool} {k l : Out} (hd : wordCond v = .ok d) (hc : wordCond v = .ok c)
    (hf : s.holds c = false) : (if b then s.onCond d k else s.onCond d l) = .next s := by
  cases b with
  | true => exact onCond_of_wordCond hd hc hf
  | false => exact onCond_of_wordCond hd hc hf

/-- A branch that is not taken still counts as one. -/
theorem branch_of_wordCond {taken : Except Stop State} (hd : wordCond v = .ok d) (hc : wordCond v = .ok c)
    (hf : s.holds c = false) : branch s d taken = .next s.noteBranch := by
  obtain rfl : d = c := Except.ok.inj (hd.symm.trans hc)
  simp [branch, hf]

end

/-- Settles O17: each meaning does all it does on the condition in its word; that of NOP and IDLE cannot be false. -/
theorem falseConditionRemovesTheInstruction : Obligations.FalseConditionRemovesTheInstruction := by
  intro i c s hc hf
  cases i with
  | addL o | addLToLong o | addLLong o | addLCst o | addLCstLong o | addu o | adduLong o | subL o | subLX o
  | subLToLong o | subLXToLong o | subLCst o | subLCstLong o | subu o | subuX o | subc o | sadd o | saddLong o
  | saddCst o | saddCstLong o | ssub o | ssubX o | ssubCst o | ssubCstLong o | sat o | abs o | absLong o | andL o
  | andLCst o | orL o | orLCst o | xorL o | xorLCst o | cmpeq o | cmpeqCst o | cmpeqLong o | cmpeqCstLong o | cmpgt o
  | cmpgtCst o | cmpgtLong o | cmpgtCstLong o | cmpgtu o | cmpgtuLong o | cmplt o | cmpltCst o | cmpltLong o
  | cmpltCstLong o | cmpltu o | cmpltuLong o | lmbd o | lmbdCst o | norm o | normLong o | mpy o | mpyCst o | mpyu o
  | mpyus o | mpysu o | mpysuCst o | mpyh o | mpyhu o | mpyhus o | mpyhsu o | mpyhl o | mpyhlu o | mpyhuls o
  | mpyhslu o | mpylh o | mpylhu o | mpyluhs o | mpylshu o | smpy o | smpyh o | smpyhl o | smpylh o | addS o
  | addSCst o | subS o | subSCst o | add2 o | sub2 o | andS o | andSCst o | orS o | orSCst o | xorS o | xorSCst o
  | shl o | shlLong o | shlToLong o | shlCst o | shlCstLong o | shlCstToLong o | shr o | shrLong o | shrCst o
  | shrCstLong o | shru o | shruLong o | shruCst o | shruCstLong o | sshl o | sshlCst o | mvcRead o | mvcWrite o
  | mvL o | mvLLong o | mvS o | negL o | negLLong o | negS o | notL o | notS o | zeroL o | zeroLLong o | zeroS o =>
    exact onCond_of_wordCond (wordCond_encode3 ..) hc hf
  | cmpgtuCst o | cmpgtuCstLong o | cmpltuCst o | cmpltuCstLong o | setReg o | clrReg o | extReg o | extuReg o =>
    exact choice_of_wordCond (wordCond_encode3 ..) hc hf
  | addD o | addDCst o | subD o | subDCst o | addab o | addabCst o | addah o | addahCst o | addaw o | addawCst o
  | subab o | subabCst o | subah o | subahCst o | subaw o | subawCst o | mvD o | zeroD o =>
    exact onCond_of_wordCond (wordCond_encodeD ..) hc hf
  | addk o | mvk o | mvkh o | mvkl o | mvklh o => exact onCond_of_wordCond (wordCond_encodeK ..) hc hf
  | extu o | ext o => exact onCond_of_wordCond (wordCond_encodeField ..) hc hf
  | set o | clr o => exact choice_of_wordCond (wordCond_encodeField ..) hc hf
  | ldhu o | ldbu o | ldb o | stb o | ldh o | sth o | ldw o | stw o =>
    exact onCond_of_wordCond (wordCond_encodeMem ..) hc hf
  | ldhu15 o | ldbu15 o | ldb15 o | stb15 o | ldh15 o | sth15 o | ldw15 o | stw15 o =>
    exact onCond_of_wordCond (wordCond_encodeMem15 ..) hc hf
  | bDisp o => exact branch_of_wordCond (wordCond_of_bits _ _ (encodeBr_cond o)) hc hf
  | bReg o | bIrp o | bNrp o => exact branch_of_wordCond (wordCond_encode3 ..) hc hf
  | nop _ | nop9 | idle =>
    cases (wordCond_encodeNop _).symm.trans hc
    cases hf

end Sys2Proof.Machine
end

section
/-! SUPPORT. The model's results on machine words, as the statements write them: integers cut to the width of the
destination (00_scope.md R14, 40_arith.md R300). -/

namespace Sys2Proof.Machine

/-! ## Words as integers cut to a width -/

section
variable {n : Nat} {x y : BitVec n} {a b : Int}

theorem eq_ofInt_toInt (x : BitVec n) : x = .ofInt n x.toInt := BitVec.ofInt_toInt.symm

/-- A sign-extended operand stands for its signed value, by definition. -/
theorem signExtend_eq_ofInt {m : Nat} (x : BitVec m) : x.signExtend n = .ofInt n x.toInt := rfl

/-- A zero-extended operand stands for its unsigned value. -/
theorem setWidth_eq_ofInt {m : Nat} (x : BitVec m) : x.setWidth n = .ofInt n x.toNat := by
  rw [BitVec.ofInt_natCast, BitVec.ofNat_toNat]

theorem eq_ofInt_toNat (x : BitVec n) : x = .ofInt n x.toNat := by
  rw [← setWidth_eq_ofInt, BitVec.setWidth_eq]

theorem add_eq_ofInt (hx : x = .ofInt n a) (hy : y = .ofInt n b) : x + y = .ofInt n (a + b) := by
  rw [hx, hy, BitVec.ofInt_add]

theorem sub_eq_ofInt (hx : x = .ofInt n a) (hy : y = .ofInt n b) : x - y = .ofInt n (a - b) := by
  rw [hx, hy, BitVec.sub_eq_add_neg, ← BitVec.ofInt_neg, ← BitVec.ofInt_add, Int.sub_eq_add_neg]

/-- Integers that agree modulo 2^n are cut to the same word. -/
theorem ofInt_eq_of_emod_eq (h : a % 2 ^ n = b % 2 ^ n) : BitVec.ofInt n a = BitVec.ofInt n b := by
  apply BitVec.eq_of_toNat_eq
  rw [BitVec.toNat_ofInt, BitVec.toNat_ofInt]
  exact_mod_cast congrArg Int.toNat h

end

/-! ## Results on a condition -/

variable {s : State} {c : Cond} {d : Side} {f : BitVec 5} {n : Int}

theorem onCond_eq_ifHolds (s t : State) (c : Cond) : s.onCond c (.next t) = s.ifHolds c t := onCond_next_eq ..

theorem onCond_putReg {v : Word} (hv : v = .ofInt 32 n) :
    s.onCond c (.next (s.putReg d f v)) = s.ifHolds c (s.sets d f n) := by
  rw [onCond_eq_ifHolds, hv, State.sets]

/-- A pair takes an integer modulo 2^40. -/
theorem setsPair_emod (s : State) (d : Side) (f : BitVec 5) (n : Int) :
    s.setsPair d f (n % 2 ^ 40) = s.setsPair d f n := by
  have hlow : BitVec.ofInt 32 (n % 2 ^ 40) = BitVec.ofInt 32 n := ofInt_eq_of_emod_eq (by omega)
  have hhigh : n % 2 ^ 40 / 2 ^ 32 % 2 ^ 8 = n / 2 ^ 32 % 2 ^ 8 := by omega
  simp only [State.setsPair, State.sets, hlow, hhigh]

theorem putLong_ofInt (s : State) (d : Side) (f : BitVec 5) (n : Int) :
    s.putLong d f (.ofInt 40 n) = s.setsPair d f n := by
  have hn : ((BitVec.ofInt 40 n).toNat : Int) = n % 2 ^ 40 := by
    rw [BitVec.toNat_ofInt]
    omega
  rw [(registerPairsHoldFortyBits s d f (.ofInt 40 n)).2, hn, setsPair_emod]

theorem onCond_putLong {v : Long} (hv : v = .ofInt 40 n) :
    s.onCond c (.next (s.putLong d f v)) = s.ifHolds c (s.setsPair d f n) := by
  rw [onCond_eq_ifHolds, hv, putLong_ofInt]

end Sys2Proof.Machine
end

section
/-! SUPPORT. Addition and subtraction, whole words, pairs and halves (40_arith.md R305 to R315, R335, R340, R360 to
R390). -/

namespace Sys2Proof.Machine

/-- Settles O37: the meaning of each form adds or subtracts words that stand for the integers of the statement; a signed
constant is sign-extended, the unsigned one of .D zero-extended. -/
theorem addAndSubtractThirtyTwoBits : Obligations.AddAndSubtractThirtyTwoBits := by
  intro s
  exact ⟨
    -- ADD on .L and .S
    fun _ => onCond_putReg (add_eq_ofInt (eq_ofInt_toInt _) (eq_ofInt_toInt _)),
    fun _ => onCond_putReg (add_eq_ofInt (signExtend_eq_ofInt _) (eq_ofInt_toInt _)),
    fun _ => onCond_putReg (add_eq_ofInt (eq_ofInt_toInt _) (eq_ofInt_toInt _)),
    fun _ => onCond_putReg (add_eq_ofInt (signExtend_eq_ofInt _) (eq_ofInt_toInt _)),
    -- ADD on .D, ADDK
    fun _ => onCond_putReg (add_eq_ofInt (eq_ofInt_toInt _) (eq_ofInt_toInt _)),
    fun _ => onCond_putReg (add_eq_ofInt (eq_ofInt_toInt _) (setWidth_eq_ofInt _)),
    fun _ => onCond_putReg (add_eq_ofInt (eq_ofInt_toInt _) (signExtend_eq_ofInt _)),
    -- SUB on .L and .S
    fun _ => onCond_putReg (sub_eq_ofInt (eq_ofInt_toInt _) (eq_ofInt_toInt _)),
    fun _ => onCond_putReg (sub_eq_ofInt (eq_ofInt_toInt _) (eq_ofInt_toInt _)),
    fun _ => onCond_putReg (sub_eq_ofInt (signExtend_eq_ofInt _) (eq_ofInt_toInt _)),
    fun _ => onCond_putReg (sub_eq_ofInt (eq_ofInt_toInt _) (eq_ofInt_toInt _)),
    fun _ => onCond_putReg (sub_eq_ofInt (signExtend_eq_ofInt _) (eq_ofInt_toInt _)),
    -- SUB on .D
    fun _ => onCond_putReg (sub_eq_ofInt (eq_ofInt_toInt _) (eq_ofInt_toInt _)),
    fun _ => onCond_putReg (sub_eq_ofInt (eq_ofInt_toInt _) (setWidth_eq_ofInt _))⟩

/-- Settles O38: as for 32 bits, each operand extended to 40 as its type says. -/
theorem addAndSubtractFortyBits : Obligations.AddAndSubtractFortyBits := by
  intro s o
  exact ⟨
    -- ADD, ADDU
    onCond_putLong (add_eq_ofInt (signExtend_eq_ofInt _) (signExtend_eq_ofInt _)),
    onCond_putLong (add_eq_ofInt (signExtend_eq_ofInt _) (eq_ofInt_toInt _)),
    onCond_putLong (add_eq_ofInt (signExtend_eq_ofInt _) (eq_ofInt_toInt _)),
    onCond_putLong (add_eq_ofInt (setWidth_eq_ofInt _) (setWidth_eq_ofInt _)),
    onCond_putLong (add_eq_ofInt (setWidth_eq_ofInt _) (eq_ofInt_toNat _)),
    -- SUB, SUBU
    onCond_putLong (sub_eq_ofInt (signExtend_eq_ofInt _) (signExtend_eq_ofInt _)),
    onCond_putLong (sub_eq_ofInt (signExtend_eq_ofInt _) (signExtend_eq_ofInt _)),
    onCond_putLong (sub_eq_ofInt (signExtend_eq_ofInt _) (eq_ofInt_toInt _)),
    onCond_putLong (sub_eq_ofInt (setWidth_eq_ofInt _) (setWidth_eq_ofInt _)),
    onCond_putLong (sub_eq_ofInt (setWidth_eq_ofInt _) (setWidth_eq_ofInt _))⟩

/-! ## Halves -/

/-- Two halves side by side, each cut to 16 bits. -/
theorem append_ofNat_eq_halves (h l : Nat) :
    (BitVec.ofNat 16 h ++ BitVec.ofNat 16 l : Word) = .ofInt 32 (halves h l) := by
  apply BitVec.eq_of_toNat_eq
  rw [halves, BitVec.ofInt_natCast, BitVec.toNat_append, ← Nat.shiftLeft_add_eq_or_of_lt (BitVec.isLt _),
    Nat.shiftLeft_eq, BitVec.toNat_ofNat, BitVec.toNat_ofNat, BitVec.toNat_ofNat]
  omega

theorem toNat_upperHalf (v : Word) : (v.extractLsb' 16 16).toNat = v.toNat / 2 ^ 16 := by
  rw [← div_mod_eq_extract, Nat.mod_eq_of_lt (by have := v.isLt; omega)]

theorem toNat_lowerHalf (v : Word) : (v.extractLsb' 0 16).toNat = v.toNat % 2 ^ 16 := (mod_eq_extract v 16).symm

theorem add2Value_eq (a b : Word) :
    add2Value a b
      = .ofInt 32 (halves (a.toNat / 2 ^ 16 + b.toNat / 2 ^ 16) (a.toNat % 2 ^ 16 + b.toNat % 2 ^ 16)) := by
  have hadd (x y : BitVec 16) : x + y = .ofNat 16 (x.toNat + y.toNat) := BitVec.eq_of_toNat_eq (by simp)
  rw [← append_ofNat_eq_halves, add2Value, hadd, hadd]
  simp only [toNat_upperHalf, toNat_lowerHalf]

theorem sub2Value_eq (a b : Word) :
    sub2Value a b
      = .ofInt 32 (halves (a.toNat / 2 ^ 16 + 2 ^ 16 - b.toNat / 2 ^ 16)
          (a.toNat % 2 ^ 16 + 2 ^ 16 - b.toNat % 2 ^ 16)) := by
  have hsub (x y : BitVec 16) : x - y = .ofNat 16 (x.toNat + 2 ^ 16 - y.toNat) := by bv_omega
  rw [← append_ofNat_eq_halves, sub2Value, hsub, hsub]
  simp only [toNat_upperHalf, toNat_lowerHalf]

/-! ## One step of a division -/

theorem subcValue_eq (a b : Word) :
    subcValue a b
      = .ofInt 32 (if b.toNat ≤ a.toNat then ((a.toNat - b.toNat) * 2 + 1 : Nat) else (a.toNat * 2 : Nat)) := by
  unfold subcValue
  split
  · rw [BitVec.ofInt_natCast]
    bv_omega
  · rw [BitVec.ofInt_natCast]
    bv_omega

/-- Settles O39 from the value of each of the three. -/
theorem halfwordArithmeticAndDivisionStep : Obligations.HalfwordArithmeticAndDivisionStep := by
  intro s o a b
  exact ⟨onCond_putReg (add2Value_eq ..), onCond_putReg (sub2Value_eq ..), onCond_putReg (subcValue_eq ..)⟩

end Sys2Proof.Machine
end

section
/-! SUPPORT. Address arithmetic, linear or in a block of 2^(n+1) bytes (20_memory.md R165 to R168, 40_arith.md R319). -/

namespace Sys2Proof.Machine

/-! ## A circular address -/

/-- The mask of the bits that a circular address changes; for n = 31 it is the whole word. -/
theorem blockMask_eq (n : BitVec 5) : (2#32 <<< n.toNat) - 1 = .ofNat 32 (2 ^ (n.toNat + 1) - 1) := by
  have hshift : (2#32 <<< n.toNat) = .ofNat 32 (2 ^ (n.toNat + 1)) := by
    rw [Nat.pow_succ' (m := 2) (n := n.toNat)]
    exact BitVec.eq_of_toNat_eq (by simp [Nat.shiftLeft_eq])
  rw [hshift]
  exact BitVec.ofNat_sub_ofNat_of_le _ 1 (by decide) Nat.one_le_two_pow

/-- Base above the block and address inside it: the two parts of a word under a mask and its complement. -/
theorem maskedJoin_eq (base lin : Word) (m : Nat) :
    (base &&& ~~~ BitVec.ofNat 32 (2 ^ m - 1)) ||| (lin &&& BitVec.ofNat 32 (2 ^ m - 1))
      = .ofNat 32 (2 ^ m * (base.toNat / 2 ^ m) + lin.toNat % 2 ^ m) := by
  apply BitVec.eq_of_getLsbD_eq
  intro i hi
  have hlow : lin.toNat % 2 ^ m < 2 ^ m := Nat.mod_lt _ (Nat.two_pow_pos m)
  simp only [BitVec.getLsbD_or, BitVec.getLsbD_and, BitVec.getLsbD_not, BitVec.getLsbD_ofNat,
    Nat.testBit_two_pow_sub_one, Nat.testBit_two_pow_mul_add _ hlow, Nat.testBit_mod_two_pow, Nat.testBit_div_two_pow,
    BitVec.testBit_toNat, hi]
  by_cases h : i < m
  · simp [h]
  · simp [h, Nat.sub_add_cancel (Nat.le_of_not_lt h)]

theorem circular_eq_masked (n : BitVec 5) (base lin : Word) :
    circular n base lin = (base &&& ~~~((2#32 <<< n.toNat) - 1)) ||| (lin &&& ((2#32 <<< n.toNat) - 1)) := by
  unfold circular
  split
  · next h =>
    have hmask : (2#32 <<< n.toNat) - 1 = BitVec.allOnes 32 := by rw [h]; rfl
    rw [hmask, BitVec.and_allOnes, BitVec.not_allOnes, BitVec.and_zero, BitVec.zero_or]
  · rfl

/-- The block holds 2^(n+1) bytes, at most the whole address space. -/
theorem circular_eq_ofInt {base lin : Word} {v : Int} (n : BitVec 5) (hlin : lin = .ofInt 32 v) :
    circular n base lin = .ofInt 32 (wrapped n.toNat base.toNat v) := by
  have hdvd : (2 : Int) ^ (n.toNat + 1) ∣ 2 ^ 32 := by
    exact_mod_cast Nat.pow_dvd_pow 2 (show n.toNat + 1 ≤ 32 by have := n.isLt; omega)
  have hlow : ((lin.toNat % 2 ^ (n.toNat + 1) : Nat) : Int) = v % 2 ^ (n.toNat + 1) := by
    have hv : (lin.toNat : Int) = v % 2 ^ 32 := by
      rw [hlin, BitVec.toNat_ofInt]
      omega
    push_cast
    rw [hv, Int.emod_emod_of_dvd v hdvd]
  rw [circular_eq_masked, blockMask_eq, maskedJoin_eq, ← BitVec.ofInt_natCast, wrapped, ← hlow]
  push_cast
  rw [Int.mul_comm]

/-! ## The address calculation -/

section
variable {s : State} {d : Side} {f : BitVec 5} {off : Word} {n : Int}

/-- The base plus or minus an offset, in the modes 0, 1 and 2. -/
theorem addrCalc_eq_addressOf (add : Bool) (hoff : off = .ofInt 32 n) (hmode : s.addrMode d f ≠ 3) :
    addrCalc s d f off add = .ok (.ofInt 32 (s.addressOf d f (bif add then n else -n))) := by
  have hlin : (if add then s.reg d f + off else s.reg d f - off)
      = .ofInt 32 ((s.reg d f).toNat + bif add then n else -n) := by
    cases add with
    | true => exact add_eq_ofInt (eq_ofInt_toNat _) hoff
    | false => exact sub_eq_ofInt (eq_ofInt_toNat _) hoff
  have hlt : s.addrMode d f < 4 := BitVec.isLt _
  have hcases : s.addrMode d f = 0 ∨ s.addrMode d f = 1 ∨ s.addrMode d f = 2 := by omega
  unfold State.addressOf addrCalc
  unfold State.addrMode at *
  rcases hcases with h | h | h
  · simp only [h, hlin, if_true]
  · simp only [h, hlin, Nat.one_ne_zero, if_true, if_false]
    rw [circular_eq_ofInt _ rfl]
  · simp only [h, hlin, show ¬ 2 = 0 by decide, show ¬ 2 = 1 by decide, if_false]
    rw [circular_eq_ofInt _ rfl]

/-- Mode 3 is reserved (D41, log 27). -/
theorem addrCalc_of_mode_three (add : Bool) (hmode : s.addrMode d f = 3) :
    addrCalc s d f off add = .error (.fault .reservedAddressingMode) := by
  rw [State.addrMode] at hmode
  simp [addrCalc, hmode]

end

/-! ## ADDAB to SUBAW -/

/-- An offset scaled by the width of an access. -/
theorem shiftLeft_scale_eq_ofInt {x : Word} {n v : Int} (w : Width) (hx : x = .ofInt 32 n) (hv : v = n * w.bytes) :
    x <<< w.scale = .ofInt 32 v := by
  have hw : BitVec.twoPow 32 w.scale = .ofInt 32 w.bytes := by cases w <;> rfl
  rw [BitVec.shiftLeft_eq_mul_twoPow, hx, hw, hv, BitVec.ofInt_mul]

section
variable {s : State} {o : OpsD} {off : Word} {n v : Int}

/-- One of the instructions: the calculated address is its result, the reserved mode a fault if it would be used. -/
theorem addressArith_eq (w : Width) (add : Bool) (hoff : off = .ofInt 32 n) (hv : v = n * w.bytes) :
    (s.addrMode o.side o.src2 ≠ 3 → addressArith s o w off add
      = s.ifHolds o.cond (s.sets o.side o.dst (s.addressOf o.side o.src2 (bif add then v else -v))))
    ∧ (s.addrMode o.side o.src2 = 3 → addressArith s o w off add
      = if s.holds o.cond then .fault .reservedAddressingMode else .next s) := by
  constructor
  · intro hmode
    rw [addressArith, addrCalc_eq_addressOf add (shiftLeft_scale_eq_ofInt w hoff hv) hmode]
    exact onCond_putReg rfl
  · intro hmode
    rw [addressArith, addrCalc_of_mode_three add hmode]
    rfl

end

/-- Settles O40: the twelve forms are one calculation with the offset, the width and the direction given. -/
theorem addressArithmetic : Obligations.AddressArithmetic := by
  intro s o r c does
  have hr : src1D s o = .ofInt 32 r := eq_ofInt_toNat _
  have hc : ucst5 32 o.src1 = .ofInt 32 c := setWidth_eq_ofInt _
  exact ⟨
    addressArith_eq .byte true hr (Int.mul_one r).symm, addressArith_eq .byte true hc (Int.mul_one c).symm,
    addressArith_eq .byte false hr (Int.mul_one r).symm, addressArith_eq .byte false hc (Int.mul_one c).symm,
    addressArith_eq .half true hr rfl, addressArith_eq .half true hc rfl,
    addressArith_eq .half false hr rfl, addressArith_eq .half false hc rfl,
    addressArith_eq .word true hr rfl, addressArith_eq .word true hc rfl,
    addressArith_eq .word false hr rfl, addressArith_eq .word false hc rfl⟩

end Sys2Proof.Machine
end

section
/-! SUPPORT. Saturated results and absolute values (40_arith.md R301, R302, R345, R350, R355). -/

namespace Sys2Proof.Machine

/-- The two ways to write a clamp. -/
theorem clamp_eq_saturated (n : Nat) (v : Int) : clamp n v = saturated n v := by
  have hp : (0 : Int) < 2 ^ (n - 1) := Int.pow_pos (by decide)
  unfold clamp saturated
  omega

section
variable (s : State) (c : Cond) (d : Side) (f : BitVec 5) (v : Int)

theorem putSat32_eq : putSat32 s d f v = s.setsSaturated d f v := by
  rw [putSat32, satIf, saturates, satValue, clamp_eq_saturated, State.setsSaturated]
  by_cases h : saturated 32 v = v
  · simp [h, State.sets]
  · simp [h, State.sets]

theorem putSat40_eq : putSat40 s d f v = s.setsPairSaturated d f v := by
  rw [putSat40, satIf, saturates, satValue, clamp_eq_saturated, putLong_ofInt, State.setsPairSaturated]
  by_cases h : saturated 40 v = v
  · simp [h]
  · simp [h]

theorem onCond_putSat32 : s.onCond c (.next (putSat32 s d f v)) = s.ifHolds c (s.setsSaturated d f v) := by
  rw [onCond_eq_ifHolds, putSat32_eq]

theorem onCond_putSat40 : s.onCond c (.next (putSat40 s d f v)) = s.ifHolds c (s.setsPairSaturated d f v) := by
  rw [onCond_eq_ifHolds, putSat40_eq]

end

/-- The most negative value has no positive counterpart; the greatest positive one stands for it (R302, log 46). -/
theorem absValue_eq {n : Nat} (v : BitVec n) :
    absValue v = .ofInt n (min v.toInt.natAbs (2 ^ (n - 1) - 1) : Nat) := by
  have hlow : -(2 ^ (n - 1) : Nat) ≤ v.toInt := by exact_mod_cast v.le_toInt
  have hhigh : v.toInt < (2 ^ (n - 1) : Nat) := by exact_mod_cast BitVec.toInt_lt (x := v)
  have hcast : (2 : Int) ^ (n - 1) = (2 ^ (n - 1) : Nat) := by push_cast; rfl
  rw [absValue, hcast]
  congr 1
  split
  · omega
  · split
    · omega
    · omega

/-- Settles O54: SADD, SSUB and SAT clamp their exact result, ABS its value. -/
theorem saturatingArithmeticAndAbs : Obligations.SaturatingArithmeticAndAbs := by
  intro s o r x1 c x2 r2 l does doesPair
  exact ⟨onCond_putSat32 .., onCond_putSat40 .., onCond_putSat32 .., onCond_putSat40 .., onCond_putSat32 ..,
    onCond_putSat32 .., onCond_putSat32 .., onCond_putSat40 .., onCond_putSat32 .., onCond_putReg (absValue_eq _),
    onCond_putLong (absValue_eq _)⟩

end Sys2Proof.Machine
end

section
/-! SUPPORT. The bitwise instructions and the compares (41_logic_shift_bitfield.md R405 to R411, R419 to R436). -/

namespace Sys2Proof.Machine

/-! ## AND, OR, XOR -/

/-- Bit 4 of a signed constant stands for every bit above it. -/
theorem getLsbD_scst5 (f : BitVec 5) {k : Nat} (hk : k < 32) : (scst5 32 f).getLsbD k = f.getLsbD (min k 4) := by
  rw [scst5, BitVec.getLsbD_signExtend]
  by_cases h : k < 5
  · have hmin : min k 4 = k := by omega
    simp [hk, h, hmin]
  · have hmin : min k 4 = 4 := by omega
    simp [hk, h, hmin, BitVec.msb_eq_getLsbD_last]

/-- The result of an operation that works bit by bit. -/
theorem set32_bitwise {op : Word → Word → Word} {f : Bool → Bool → Bool}
    (hop : ∀ {k : Nat} {x y : Word}, (op x y).getLsbD k = f (x.getLsbD k) (y.getLsbD k))
    {s : State} {o : Ops3} {x y : Word} {a : Nat → Bool} (ha : ∀ k < 32, x.getLsbD k = a k) :
    ∃ v : Word, set32 s o (op x y) = s.ifHolds o.cond (s.putReg o.side o.dst v)
      ∧ ∀ k < 32, v.getLsbD k = f (a k) (y.getLsbD k) :=
  ⟨op x y, onCond_eq_ifHolds .., fun k hk => by rw [hop, ha k hk]⟩

/-- Settles O41: each operation works bit by bit, on a register as it is and on a constant with its sign extended. -/
theorem logicIsBitByBit : Obligations.LogicIsBitByBit := by
  intro s o r c b does
  have hr : ∀ k < 32, (src1 s o).getLsbD k = r k := fun _ _ => rfl
  have hc : ∀ k < 32, (scst5 32 o.src1).getLsbD k = c k := fun _ => getLsbD_scst5 _
  exact ⟨
    set32_bitwise BitVec.getLsbD_and hr, set32_bitwise BitVec.getLsbD_and hc,
    set32_bitwise BitVec.getLsbD_and hr, set32_bitwise BitVec.getLsbD_and hc,
    set32_bitwise BitVec.getLsbD_or hr, set32_bitwise BitVec.getLsbD_or hc,
    set32_bitwise BitVec.getLsbD_or hr, set32_bitwise BitVec.getLsbD_or hc,
    set32_bitwise BitVec.getLsbD_xor hr, set32_bitwise BitVec.getLsbD_xor hc,
    set32_bitwise BitVec.getLsbD_xor hr, set32_bitwise BitVec.getLsbD_xor hc⟩

/-! ## Operands of the compares -/

theorem toInt_scst5 {n : Nat} (f : BitVec 5) (hn : 5 ≤ n) : (scst5 n f).toInt = f.toInt :=
  BitVec.toInt_signExtend_of_le hn

/-- A 4-bit constant has bit 17 of the word set exactly when its field is 16 or more (D33). -/
theorem ucst4Bad_iff {f : BitVec 5} : ucst4Bad f = true ↔ 16 ≤ f.toNat := by
  rw [ucst4Bad, ← BitVec.testBit_toNat, Nat.testBit_eq_decide_div_mod_eq, decide_eq_true_iff]
  have := f.isLt
  omega

theorem toNat_ucst4 {n : Nat} (f : BitVec 5) (hn : 4 ≤ n) (hf : f.toNat < 16) : (ucst4 n f).toNat = f.toNat := by
  rw [ucst4, BitVec.toNat_setWidth_of_le hn, BitVec.extractLsb'_toNat, Nat.shiftRight_zero]
  exact Nat.mod_eq_of_lt hf

/-! ## Compares -/

theorem setTruth_eq_ifHolds (s : State) (o : Ops3) (t : Bool) :
    setTruth s o t = s.ifHolds o.cond (s.sets o.side o.dst (truth (t = true))) :=
  onCond_putReg (by cases t <;> rfl)

theorem setFree_eq_ifHolds (s : State) (o : Ops3) : setFree s o = s.ifHolds o.cond (s.setsFree o.side o.dst) :=
  onCond_eq_ifHolds ..

section
variable {s : State} {o : Ops3} {n : Nat} {x y : BitVec n}

/-- Words are equal exactly when their signed values are. -/
theorem setTruth_beq {a b : Int} (hx : x.toInt = a) (hy : y.toInt = b) :
    setTruth s o (x == y) = s.ifHolds o.cond (s.sets o.side o.dst (truth (decide (a = b) = true))) := by
  have heq : (x == y) = decide (a = b) := by
    rw [Bool.eq_iff_iff, beq_iff_eq, decide_eq_true_iff, ← hx, ← hy, BitVec.toInt_inj]
  rw [setTruth_eq_ifHolds, heq]

theorem setTruth_slt {a b : Int} (hx : x.toInt = a) (hy : y.toInt = b) :
    setTruth s o (x.slt y) = s.ifHolds o.cond (s.sets o.side o.dst (truth (decide (a < b) = true))) := by
  rw [setTruth_eq_ifHolds, BitVec.slt_eq_decide, hx, hy]

theorem setTruth_ult {a b : Nat} (hx : x.toNat = a) (hy : y.toNat = b) :
    setTruth s o (x.ult y) = s.ifHolds o.cond (s.sets o.side o.dst (truth (decide (a < b) = true))) := by
  rw [setTruth_eq_ifHolds, BitVec.ult_eq_decide, hx, hy]

/-- A constant form of an unsigned compare: `r` is its result when bit 17 of the word is 0. -/
theorem ucst4Form_eq {k r : Out} (hk : o.src1.toNat < 16 → k = r) :
    (o.src1.toNat < 16 → (if ucst4Bad o.src1 then setFree s o else k) = r)
    ∧ (16 ≤ o.src1.toNat →
      (if ucst4Bad o.src1 then setFree s o else k) = s.ifHolds o.cond (s.setsFree o.side o.dst)) := by
  constructor
  · intro h
    rw [if_neg ((not_congr ucst4Bad_iff).mpr (Nat.not_le.mpr h)), hk h]
  · intro h
    rw [if_pos (ucst4Bad_iff.mpr h), setFree_eq_ifHolds]

end

/-- Settles O42: every operand has the signed value that the statement compares. -/
theorem signedCompares : Obligations.SignedCompares := by
  intro s o r x1 c x2 l does
  have hx1 : ((xsrc1 s o).signExtend 40).toInt = x1 := BitVec.toInt_signExtend_of_le (by decide)
  have hc : (scst5 32 o.src1).toInt = c := toInt_scst5 _ (by decide)
  have hcLong : (scst5 40 o.src1).toInt = c := toInt_scst5 _ (by decide)
  exact ⟨
    setTruth_beq rfl rfl, setTruth_beq hc rfl, setTruth_beq hx1 rfl, setTruth_beq hcLong rfl,
    setTruth_slt rfl rfl, setTruth_slt rfl hc, setTruth_slt rfl hx1, setTruth_slt rfl hcLong,
    setTruth_slt rfl rfl, setTruth_slt hc rfl, setTruth_slt hx1 rfl, setTruth_slt hcLong rfl⟩

/-- Settles O43: every operand has the unsigned value that the statement compares; a constant of 16 or more is D33. -/
theorem unsignedCompares : Obligations.UnsignedCompares := by
  intro s o r x1 c x2 l does doesCst
  have hx1 : ((xsrc1 s o).setWidth 40).toNat = x1 := BitVec.toNat_setWidth_of_le (by decide)
  have hc (h : c < 16) : (ucst4 32 o.src1).toNat = c := toNat_ucst4 _ (by decide) h
  have hcLong (h : c < 16) : (ucst4 40 o.src1).toNat = c := toNat_ucst4 _ (by decide) h
  exact ⟨
    setTruth_ult rfl rfl, ucst4Form_eq fun h => setTruth_ult rfl (hc h),
    setTruth_ult rfl hx1, ucst4Form_eq fun h => setTruth_ult rfl (hcLong h),
    setTruth_ult rfl rfl, ucst4Form_eq fun h => setTruth_ult (hc h) rfl,
    setTruth_ult hx1 rfl, ucst4Form_eq fun h => setTruth_ult (hcLong h) rfl⟩

end Sys2Proof.Machine
end

section
/-! SUPPORT. The shifts and the bit fields (41_logic_shift_bitfield.md R449 to R465, R469 to R485). -/

namespace Sys2Proof.Machine

/-! ## Shifted words as integers -/

theorem natCast_two_pow (k : Nat) : ((2 ^ k : Nat) : Int) = 2 ^ k := Int.natCast_pow 2 k

section
variable {n : Nat}

theorem shiftLeft_eq_ofInt {x : BitVec n} {a : Int} (k : Nat) (hx : x = .ofInt n a) :
    x <<< k = .ofInt n (a * 2 ^ k) := by
  have hpow : BitVec.twoPow n k = .ofInt n (2 ^ k) := by
    apply BitVec.eq_of_toNat_eq
    rw [BitVec.toNat_twoPow, ← BitVec.toNat_ofNat, ← BitVec.ofInt_natCast, natCast_two_pow]
  rw [BitVec.shiftLeft_eq_mul_twoPow, hpow, hx, BitVec.ofInt_mul]

theorem sshiftRight_eq_ofInt (x : BitVec n) (k : Nat) : x.sshiftRight k = .ofInt n (x.toInt / 2 ^ k) := by
  rw [BitVec.sshiftRight, Int.shiftRight_eq_div_pow, natCast_two_pow]

theorem ushiftRight_eq_ofInt (x : BitVec n) (k : Nat) : x >>> k = .ofInt n (x.toNat / 2 ^ k) := by
  have hdiv : ((x.toNat : Int) / 2 ^ k) = (x >>> k).toNat := by
    rw [BitVec.toNat_ushiftRight, Nat.shiftRight_eq_div_pow, Int.natCast_ediv, natCast_two_pow]
  rw [hdiv]
  exact eq_ofInt_toNat _

end

/-! ## SHL, SHR, SHRU, SSHL -/

theorem shiftAmount_eq (v : Word) : shiftAmount v = min (v.toNat % 64) 40 :=
  congrArg (min · 40) (mod_eq_extract v 6).symm

/-- SSHL by a register amount up to 31. -/
theorem execSshl_of_le {s : State} {o : Ops3} (h : (src1 s o).toNat ≤ 31) :
    execSshl o s
      = s.ifHolds o.cond (s.setsSaturated o.side o.dst ((xsrc2 s o).toInt * 2 ^ (src1 s o).toNat)) := by
  rw [execSshl, if_neg (Nat.not_lt.mpr h), onCond_putSat32]

/-- SSHL by a register amount above 31: the result and the request are both free (D32). -/
theorem execSshl_of_lt {s : State} {o : Ops3} (h : 31 < (src1 s o).toNat) :
    execSshl o s = s.ifHolds o.cond
      (if s.freeBit then (s.setsFree o.side o.dst).requestSat 1 else s.setsFree o.side o.dst) := by
  rw [execSshl, if_pos h]
  exact onCond_eq_ifHolds ..

/-- Settles O46: a shift multiplies or divides by a power of two the integer that its operand stands for. -/
theorem shiftsWithAndWithoutSaturation : Obligations.ShiftsWithAndWithoutSaturation := by
  intro s o a n c x l does doesPair
  have hn : shiftAmount (src1 s o) = n := shiftAmount_eq _
  exact ⟨
    -- SHL
    onCond_putReg (hn ▸ shiftLeft_eq_ofInt _ (eq_ofInt_toInt _)),
    onCond_putReg (shiftLeft_eq_ofInt _ (eq_ofInt_toInt _)),
    onCond_putLong (hn ▸ shiftLeft_eq_ofInt _ (eq_ofInt_toInt _)),
    onCond_putLong (shiftLeft_eq_ofInt _ (eq_ofInt_toInt _)),
    onCond_putLong (hn ▸ shiftLeft_eq_ofInt _ (setWidth_eq_ofInt _)),
    onCond_putLong (shiftLeft_eq_ofInt _ (setWidth_eq_ofInt _)),
    -- SHR
    onCond_putReg (hn ▸ sshiftRight_eq_ofInt ..), onCond_putReg (sshiftRight_eq_ofInt ..),
    onCond_putLong (hn ▸ sshiftRight_eq_ofInt ..), onCond_putLong (sshiftRight_eq_ofInt ..),
    -- SHRU
    onCond_putReg (hn ▸ ushiftRight_eq_ofInt ..), onCond_putReg (ushiftRight_eq_ofInt ..),
    onCond_putLong (hn ▸ ushiftRight_eq_ofInt ..), onCond_putLong (ushiftRight_eq_ofInt ..),
    -- SSHL
    onCond_putSat32 .., execSshl_of_le, execSshl_of_lt⟩

/-! ## Field positions in a register -/

/-- One of the 22 upper bits of the register is set (D31). -/
theorem fieldRegBad_iff {v : Word} : fieldRegBad v = true ↔ 2 ^ 10 ≤ v.toNat := by
  have hhigh : (v.extractLsb' 10 22).toNat = v.toNat / 2 ^ 10 := by
    rw [← div_mod_eq_extract, Nat.mod_eq_of_lt (by have := v.isLt; omega)]
  have hzero : v.extractLsb' 10 22 = 0 ↔ v.toNat / 2 ^ 10 = 0 := by
    rw [← BitVec.toNat_inj, hhigh, BitVec.ofNat_eq_ofNat, BitVec.toNat_ofNat, Nat.zero_mod]
  rw [fieldRegBad, bne_iff_ne, ne_eq, hzero]
  omega

theorem toNat_cstaOf {v : Word} (hv : v.toNat < 2 ^ 10) : (cstaOf v).toNat = v.toNat / 2 ^ 5 := by
  rw [cstaOf, ← div_mod_eq_extract, Nat.mod_eq_of_lt (by omega)]

theorem toNat_cstbOf (v : Word) : (cstbOf v).toNat = v.toNat % 2 ^ 5 := (mod_eq_extract v 5).symm

/-- A constant form of CLR and SET is open when its field is empty (D37). -/
theorem emptyField_iff {csta cstb : BitVec 5} : cstb.ult csta = true ↔ cstb.toNat < csta.toNat := by
  rw [BitVec.ult_eq_decide, decide_eq_true_iff]

/-- A register form of CLR and SET is open when a high bit of the register is set (D31) or its field is empty (D37). -/
theorem openField_iff {v : Word} :
    (fieldRegBad v || (cstbOf v).ult (cstaOf v)) = true ↔ 2 ^ 10 ≤ v.toNat ∨ v.toNat % 2 ^ 5 < v.toNat / 2 ^ 5 := by
  rw [Bool.or_eq_true, fieldRegBad_iff, emptyField_iff, toNat_cstbOf]
  by_cases hv : 2 ^ 10 ≤ v.toNat
  · simp only [hv, true_or]
  · rw [toNat_cstaOf (Nat.not_le.mp hv)]

/-! ## CLR, SET, EXT, EXTU -/

/-- The mask holds the bits csta to cstb, none when csta is above cstb. -/
theorem getLsbD_fieldMask (csta cstb : BitVec 5) {k : Nat} (hk : k < 32) :
    (fieldMask csta cstb).getLsbD k = (decide (csta.toNat ≤ k) && decide (k ≤ cstb.toNat)) := by
  have hleft : decide (k < csta.toNat) = !decide (csta.toNat ≤ k) := by
    simp only [← decide_not, Nat.not_le]
  have hright : decide (31 - cstb.toNat + k < 32) = decide (k ≤ cstb.toNat) := by
    have := cstb.isLt
    rw [decide_eq_decide]
    omega
  rw [fieldMask, BitVec.getLsbD_and, BitVec.getLsbD_shiftLeft, BitVec.getLsbD_ushiftRight, BitVec.getLsbD_allOnes,
    BitVec.getLsbD_allOnes, hright, hleft]
  simp [show k - csta.toNat < 32 by omega, hk]

theorem shiftLeft_eq_ofNat (x : Word) (k : Nat) : x <<< k = .ofNat 32 (x.toNat * 2 ^ k) := by
  apply BitVec.eq_of_toNat_eq
  rw [BitVec.toNat_shiftLeft, Nat.shiftLeft_eq, BitVec.toNat_ofNat]

section
variable {csta cstb : BitVec 5} {lo hi : Nat} (x : Word) (hlo : csta.toNat = lo) (hhi : cstb.toNat = hi)
include hlo hhi

theorem getLsbD_clrValue (k : Nat) (hk : k < 32) :
    (clrValue x csta cstb).getLsbD k = (x.getLsbD k && !(decide (lo ≤ k) && decide (k ≤ hi))) := by
  rw [clrValue, BitVec.getLsbD_and, BitVec.getLsbD_not, getLsbD_fieldMask _ _ hk, decide_eq_true hk, Bool.true_and,
    hlo, hhi]

theorem getLsbD_setValue (k : Nat) (hk : k < 32) :
    (setValue x csta cstb).getLsbD k = (x.getLsbD k || (decide (lo ≤ k) && decide (k ≤ hi))) := by
  rw [setValue, BitVec.getLsbD_or, getLsbD_fieldMask _ _ hk, hlo, hhi]

theorem extValue_eq :
    extValue x csta cstb = .ofInt 32 ((BitVec.ofNat 32 (x.toNat * 2 ^ lo)).toInt / 2 ^ hi) := by
  rw [extValue, sshiftRight_eq_ofInt, shiftLeft_eq_ofNat, hlo, hhi]

theorem extuValue_eq : extuValue x csta cstb = .ofInt 32 (x.toNat * 2 ^ lo % 2 ^ 32 / 2 ^ hi : Nat) := by
  rw [extuValue, ushiftRight_eq_ofInt, shiftLeft_eq_ofNat, BitVec.toNat_ofNat, hlo, hhi, Int.natCast_ediv,
    natCast_two_pow]

end

/-- Settles O44: the value of a field that is there, a free value in the open cases. -/
theorem clearAndSetBitFields : Obligations.ClearAndSetBitFields := by
  intro s clr set
  refine ⟨?constant, ?constantOpen, fun o => ⟨?register, ?registerOpen⟩⟩
  case constant =>
    intro o h
    have hclosed : ¬ o.cstb.ult o.csta = true := (not_congr emptyField_iff).mpr (Nat.not_lt.mpr h)
    exact ⟨⟨_, (if_neg hclosed).trans (onCond_eq_ifHolds ..), getLsbD_clrValue _ rfl rfl⟩,
      ⟨_, (if_neg hclosed).trans (onCond_eq_ifHolds ..), getLsbD_setValue _ rfl rfl⟩⟩
  case constantOpen =>
    intro o h
    have hopen : o.cstb.ult o.csta = true := emptyField_iff.mpr h
    exact ⟨(if_pos hopen).trans (onCond_eq_ifHolds ..), (if_pos hopen).trans (onCond_eq_ifHolds ..)⟩
  case register =>
    rintro ⟨hf, horder⟩
    have hclosed : ¬ (fieldRegBad (src1 s o) || (cstbOf (src1 s o)).ult (cstaOf (src1 s o))) = true :=
      (not_congr openField_iff).mpr (not_or.mpr ⟨Nat.not_le.mpr hf, Nat.not_lt.mpr horder⟩)
    exact ⟨⟨_, (if_neg hclosed).trans (onCond_eq_ifHolds ..), getLsbD_clrValue _ (toNat_cstaOf hf) (toNat_cstbOf _)⟩,
      ⟨_, (if_neg hclosed).trans (onCond_eq_ifHolds ..), getLsbD_setValue _ (toNat_cstaOf hf) (toNat_cstbOf _)⟩⟩
  case registerOpen =>
    intro h
    have hopen : (fieldRegBad (src1 s o) || (cstbOf (src1 s o)).ult (cstaOf (src1 s o))) = true := openField_iff.mpr h
    exact ⟨(if_pos hopen).trans (setFree_eq_ifHolds ..), (if_pos hopen).trans (setFree_eq_ifHolds ..)⟩

/-- Settles O45: the two shifts one after the other, a free value when a high bit of the register is set. -/
theorem extractBitFields : Obligations.ExtractBitFields := by
  intro s ext extu
  refine ⟨?constant, fun o => ⟨?register, ?registerOpen⟩⟩
  case constant =>
    intro o
    exact ⟨onCond_putReg (extValue_eq _ rfl rfl), onCond_putReg (extuValue_eq _ rfl rfl)⟩
  case register =>
    intro hf
    have hclosed : ¬ fieldRegBad (src1 s o) = true := (not_congr fieldRegBad_iff).mpr (Nat.not_le.mpr hf)
    exact ⟨(if_neg hclosed).trans (onCond_putReg (extValue_eq _ (toNat_cstaOf hf) (toNat_cstbOf _))),
      (if_neg hclosed).trans (onCond_putReg (extuValue_eq _ (toNat_cstaOf hf) (toNat_cstbOf _)))⟩
  case registerOpen =>
    intro hf
    have hopen : fieldRegBad (src1 s o) = true := fieldRegBad_iff.mpr hf
    exact ⟨(if_pos hopen).trans (setFree_eq_ifHolds ..), (if_pos hopen).trans (setFree_eq_ifHolds ..)⟩

end Sys2Proof.Machine
end

section
/-! SUPPORT. The two counts of bits, LMBD and NORM (41_logic_shift_bitfield.md R440, R445). -/

namespace Sys2Proof.Machine

/-- What the search of `leftmostFrom v b m` has found when bits 31 to m are known to differ from b. -/
theorem leftmostFrom_spec (v : Word) (b : Bool) (m : Nat) (hm : m ≤ 32)
    (hseen : ∀ k < 32 - m, v.getLsbD (31 - k) ≠ b) :
    leftmostFrom v b m ≤ 32 ∧ (∀ k < leftmostFrom v b m, v.getLsbD (31 - k) ≠ b)
      ∧ (leftmostFrom v b m < 32 → v.getLsbD (31 - leftmostFrom v b m) = b) := by
  induction m with
  | zero => exact ⟨Nat.le_refl 32, hseen, fun h => absurd h (Nat.lt_irrefl 32)⟩
  | succ m ih =>
    by_cases hbit : v.getLsbD m = b
    · have hn : leftmostFrom v b (m + 1) = 31 - m := if_pos hbit
      rw [hn]
      refine ⟨by omega, fun k hk => hseen k (by omega), fun _ => ?_⟩
      rwa [show 31 - (31 - m) = m by omega]
    · have hn : leftmostFrom v b (m + 1) = leftmostFrom v b m := if_neg hbit
      rw [hn]
      refine ih (by omega) fun k hk => ?_
      by_cases hlast : k = 31 - m
      · rwa [hlast, show 31 - (31 - m) = m by omega]
      · exact hseen k (by omega)

/-- A run of n bits equal to b from bit m - 1 downward, ended by a bit that differs or by bit 0. -/
theorem equalRun_spec {w : Nat} (v : BitVec w) (b : Bool) (m : Nat) :
    equalRun v b m ≤ m ∧ (∀ k < equalRun v b m, v.getLsbD (m - 1 - k) = b)
      ∧ (equalRun v b m < m → v.getLsbD (m - 1 - equalRun v b m) ≠ b) := by
  induction m with
  | zero => exact ⟨Nat.le_refl 0, fun k hk => absurd hk (Nat.not_lt_zero k), fun h => absurd h (Nat.lt_irrefl 0)⟩
  | succ m ih =>
    obtain ⟨hle, hrun, hend⟩ := ih
    by_cases hbit : v.getLsbD m = b
    · have hn : equalRun v b (m + 1) = equalRun v b m + 1 := if_pos hbit
      rw [hn]
      refine ⟨by omega, fun k hk => ?_, fun h => ?_⟩
      · cases k with
        | zero => exact hbit
        | succ k =>
          rw [show m + 1 - 1 - (k + 1) = m - 1 - k by omega]
          exact hrun k (by omega)
      · rw [show m + 1 - 1 - (equalRun v b m + 1) = m - 1 - equalRun v b m by omega]
        exact hend (by omega)
    · have hn : equalRun v b (m + 1) = 0 := if_neg hbit
      rw [hn]
      exact ⟨Nat.zero_le _, fun k hk => absurd hk (Nat.not_lt_zero k), fun _ => hbit⟩

/-- A count as a result. -/
theorem set32_ofNat (s : State) (o : Ops3) (n : Nat) :
    set32 s o (.ofNat 32 n) = s.ifHolds o.cond (s.sets o.side o.dst n) :=
  onCond_putReg (BitVec.ofInt_natCast 32 n).symm

/-- Settles O55: the search and the run, from the top bit of the operand and from the bit below its sign. -/
theorem leftmostBitAndNormalization : Obligations.LeftmostBitAndNormalization := by
  intro s o x l finds
  have hfind (b : Bool) := leftmostFrom_spec x b 32 (Nat.le_refl 32) fun k hk => absurd hk (Nat.not_lt_zero k)
  exact ⟨⟨_, set32_ofNat .., hfind _⟩, ⟨_, set32_ofNat .., hfind _⟩, ⟨_, set32_ofNat .., equalRun_spec x x.msb 31⟩,
    ⟨_, set32_ofNat .., equalRun_spec l l.msb 39⟩⟩

end Sys2Proof.Machine
end

section
/-! SUPPORT. Products of halves, plain and doubled (42_multiply.md R500 to R516, R519 to R523). -/

namespace Sys2Proof.Machine

/-! ## Halves as integers -/

theorem slsb16_eq_signedLow (v : Word) : slsb16 v = signedLow v := by
  have h := BitVec.toInt_eq_toNat_bmod (v.extractLsb' 0 16)
  rw [toNat_lowerHalf] at h
  exact h

theorem ulsb16_eq_unsignedLow (v : Word) : ulsb16 v = unsignedLow v := by
  rw [ulsb16, toNat_lowerHalf, unsignedLow]

theorem smsb16_eq_signedHigh (v : Word) : smsb16 v = signedHigh v := by
  have h := BitVec.toInt_eq_toNat_bmod (v.extractLsb' 16 16)
  rw [toNat_upperHalf] at h
  exact h

theorem umsb16_eq_unsignedHigh (v : Word) : umsb16 v = unsignedHigh v := by
  rw [umsb16, toNat_upperHalf, unsignedHigh]

/-! ## A product doubled -/

/-- Doubled, a product of magnitude at most 2^30 leaves the signed 32-bit range only as 2^31. -/
theorem putSatLate_double (s : State) (d : Side) (f : BitVec 5) {p : Int} (hlow : -2 ^ 30 ≤ p) (hhigh : p ≤ 2 ^ 30) :
    putSatLate s d f (2 * p) = s.setsDouble d f p := by
  by_cases hmax : 2 * p = 2 ^ 31
  · have hclamp : clamp 32 (2 * p) = 2 ^ 31 - 1 := clamp_above 32 _ (by omega)
    have hsat : saturates 32 (2 * p) = true := (saturates_iff 32 _).mpr (by omega)
    rw [putSatLate, satIf, satValue, hclamp, if_pos hsat, State.setsDouble, if_pos hmax, State.setsLate]
  · have hclamp : clamp 32 (2 * p) = 2 * p := clamp_inside 32 _ (by omega) (by omega)
    have hsat : ¬ saturates 32 (2 * p) = true := mt (saturates_iff 32 _).mp (by omega)
    rw [putSatLate, satIf, satValue, hclamp, if_neg hsat, State.setsDouble, if_neg hmax, State.setsLate]

/-! ## Results on a condition -/

section
variable {s : State} {o : Ops3}

theorem setProduct_mul {x y p q : Int} (hx : x = p) (hy : y = q) :
    setProduct s o (x * y) = s.ifHolds o.cond (s.setsLate o.side o.dst (p * q) 1) := by
  rw [setProduct, onCond_eq_ifHolds, State.setsLate, hx, hy]

/-- A product of two signed halves lies between -2^30 and 2^30. -/
theorem setDouble_mul {x y : BitVec 16} {p q : Int} (hx : x.toInt = p) (hy : y.toInt = q) :
    setDouble s o (x.toInt * y.toInt) = s.ifHolds o.cond (s.setsDouble o.side o.dst (p * q)) := by
  have hlow : -2 ^ 30 ≤ x.toInt * y.toInt := BitVec.le_toInt_mul_toInt
  have hhigh : x.toInt * y.toInt ≤ 2 ^ 30 := BitVec.toInt_mul_toInt_le
  rw [setDouble, onCond_eq_ifHolds, putSatLate_double _ _ _ hlow hhigh, hx, hy]

end

/-- Settles O56: each meaning multiplies the halves that its mnemonic names, that of src1 first. -/
theorem multiplySixteenBySixteen : Obligations.MultiplySixteenBySixteen := by
  intro s o a b does doubles
  have aLow := slsb16_eq_signedLow a
  have aLowU := ulsb16_eq_unsignedLow a
  have aHigh := smsb16_eq_signedHigh a
  have aHighU := umsb16_eq_unsignedHigh a
  have bLow := slsb16_eq_signedLow b
  have bLowU := ulsb16_eq_unsignedLow b
  have bHigh := smsb16_eq_signedHigh b
  have bHighU := umsb16_eq_unsignedHigh b
  exact ⟨
    -- MPY, MPYU, MPYUS, MPYSU: low by low, the constant forms taking src1 itself
    setProduct_mul aLow bLow, setProduct_mul rfl bLow, setProduct_mul aLowU bLowU, setProduct_mul aLowU bLow,
    setProduct_mul aLow bLowU, setProduct_mul rfl bLowU,
    -- MPYH, MPYHU, MPYHUS, MPYHSU: high by high
    setProduct_mul aHigh bHigh, setProduct_mul aHighU bHighU, setProduct_mul aHighU bHigh, setProduct_mul aHigh bHighU,
    -- MPYHL, MPYHLU, MPYHULS, MPYHSLU: high by low
    setProduct_mul aHigh bLow, setProduct_mul aHighU bLowU, setProduct_mul aHighU bLow, setProduct_mul aHigh bLowU,
    -- MPYLH, MPYLHU, MPYLUHS, MPYLSHU: low by high
    setProduct_mul aLow bHigh, setProduct_mul aLowU bHighU, setProduct_mul aLowU bHigh, setProduct_mul aLow bHighU,
    -- SMPY, SMPYH, SMPYHL, SMPYLH
    setDouble_mul aLow bLow, setDouble_mul aHigh bHigh, setDouble_mul aHigh bLow, setDouble_mul aLow bHigh⟩

end Sys2Proof.Machine
end

section
/-! SUPPORT. The bytes of an access: what a load joins and what a store splits, in either byte order, and where an
access stops (20_memory.md R143 to R156, R180 to R186). -/

namespace Sys2Proof.Machine

/-! ## Bytes in the two byte orders -/

theorem reverse_map_range {α : Type} (n : Nat) (b : Nat → α) :
    ((List.range n).map b).reverse = (List.range n).map (fun i => b (n - 1 - i)) := by
  apply List.ext_getElem
  · simp
  · intro i _ _
    simp

/-- A byte joined below a word. -/
theorem shiftLeft_or_byte (x : Nat) (b : Byte) :
    (BitVec.ofNat 32 x <<< 8) ||| b.setWidth 32 = .ofNat 32 (256 * x + b.toNat) := by
  apply BitVec.eq_of_getLsbD_eq
  intro i hi
  have hb : b.toNat < 2 ^ 8 := b.isLt
  rw [show 256 * x + b.toNat = 2 ^ 8 * x + b.toNat from rfl]
  simp only [BitVec.getLsbD_or, BitVec.getLsbD_shiftLeft, BitVec.getLsbD_setWidth, BitVec.getLsbD_ofNat, hi,
    Nat.testBit_two_pow_mul_add _ hb, BitVec.testBit_toNat]
  by_cases h : i < 8
  · simp [h]
  · simp [h, BitVec.getLsbD_of_ge b i (Nat.le_of_not_lt h), show i - 8 < 32 by omega]

theorem sum_map_mul_left (c : Nat) (f : Nat → Nat) (l : List Nat) :
    (l.map (fun i => c * f i)).sum = c * (l.map f).sum := by
  induction l with
  | nil => rfl
  | cons i l ih => rw [List.map_cons, List.sum_cons, ih, List.map_cons, List.sum_cons, Nat.mul_add]

/-- A byte more after big-endian bytes shifts their value. -/
theorem bytesValue_succ (n : Nat) (b : Nat → Byte) :
    bytesValue false (n + 1) b = 256 * bytesValue false n b + (b n).toNat := by
  have hweight : ∀ i ∈ List.range n, (b i).toNat * byteWeight false (n + 1) i
      = 256 * ((b i).toNat * byteWeight false n i) := by
    intro i hi
    have hi := List.mem_range.mp hi
    have hpow : byteWeight false (n + 1) i = 256 * byteWeight false n i := by
      rw [byteWeight, byteWeight, if_neg Bool.false_ne_true, if_neg Bool.false_ne_true, ← Nat.pow_succ',
        show n + 1 - 1 - i = n - 1 - i + 1 by omega]
    rw [hpow, Nat.mul_left_comm]
  have hlast : byteWeight false (n + 1) n = 1 := by simp [byteWeight]
  rw [bytesValue, List.range_succ, List.map_append, List.sum_append, List.map_congr_left hweight,
    sum_map_mul_left, List.map_singleton, List.sum_singleton, hlast, Nat.mul_one, bytesValue]

theorem joinBytes_append (bs : List Byte) (b : Byte) :
    joinBytes false (bs ++ [b]) = (joinBytes false bs <<< 8) ||| b.setWidth 32 :=
  List.foldl_append

theorem joinBytes_false (n : Nat) (b : Nat → Byte) :
    joinBytes false ((List.range n).map b) = .ofNat 32 (bytesValue false n b) := by
  induction n with
  | zero => rfl
  | succ n ih =>
    rw [List.range_succ, List.map_append, List.map_singleton, joinBytes_append, ih, bytesValue_succ]
    exact shiftLeft_or_byte ..

/-- Little-endian bytes are the big-endian ones from the last to the first. -/
theorem bytesValue_true (n : Nat) (b : Nat → Byte) :
    bytesValue true n b = bytesValue false n (fun i => b (n - 1 - i)) := by
  rw [bytesValue, ← List.sum_reverse, reverse_map_range]
  rfl

/-- A little-endian join is a big-endian one of the bytes from the last to the first. -/
theorem joinBytes_eq (little : Bool) (n : Nat) (b : Nat → Byte) :
    joinBytes little ((List.range n).map b) = .ofNat 32 (bytesValue little n b) := by
  cases little with
  | false => exact joinBytes_false n b
  | true => rw [bytesValue_true, ← joinBytes_false, ← reverse_map_range]; rfl

theorem splitBytes_eq (little : Bool) (n : Nat) (v : Word) :
    splitBytes little n v = (List.range n).map (fun i => .ofNat 8 (v.toNat / byteWeight little n i)) := by
  have hbyte (i : Nat) : v.extractLsb' (8 * i) 8 = .ofNat 8 (v.toNat / 256 ^ i) := by
    apply BitVec.eq_of_toNat_eq
    rw [← div_mod_eq_extract, BitVec.toNat_ofNat, Nat.pow_mul]
  cases little with
  | false =>
    rw [splitBytes, if_neg Bool.false_ne_true, reverse_map_range]
    exact List.map_congr_left fun i _ => hbyte _
  | true => exact List.map_congr_left fun i _ => hbyte _

theorem storeCells_eq (s : State) (w : Width) (x v : Word) :
    s.storeCells w x v = (List.range w.bytes).map
      (fun i => (x.toNat + i, .ofNat 8 (v.toNat / byteWeight s.littleEndian w.bytes i))) := by
  rw [State.storeCells, splitBytes_eq, List.range'_eq_map_range, List.zip_map']

/-! ## The bytes of an access, one by one -/

section
variable {s : State} {a n : Nat} {e : Stop}

theorem loadBytes_ok {b : Nat → Byte} (h : s.bytesAre a n b) : s.loadBytes a n = .ok ((List.range n).map b) := by
  induction n generalizing a b with
  | zero => rfl
  | succ n ih =>
    obtain ⟨hcheck, hread⟩ := h 0 (Nat.succ_pos n)
    have hbyte : s.loadByte a = .ok (b 0) := by
      simp only [State.loadByte, Nat.add_zero] at *
      simp [hcheck, hread, bind, Except.bind]
    have hrest : s.loadBytes (a + 1) n = .ok ((List.range n).map (fun i => b (i + 1))) := by
      refine ih fun i hi => ?_
      rw [Nat.add_assoc, Nat.add_comm 1 i]
      exact h (i + 1) (Nat.succ_lt_succ hi)
    rw [State.loadBytes, hbyte, hrest, List.range_succ_eq_map, List.map_cons, List.map_map]
    rfl

theorem loadBytes_error (hn : 0 < n) (h : s.loadByte a = .error e) : s.loadBytes a n = .error e := by
  cases n with
  | zero => exact absurd hn (Nat.lt_irrefl 0)
  | succ n => rw [State.loadBytes, h]; rfl

theorem checkBytes_ok (h : ∀ j < n, s.checkData (a + j) = .ok ()) : s.checkBytes a n = .ok () := by
  induction n generalizing a with
  | zero => rfl
  | succ n ih =>
    have hrest : s.checkBytes (a + 1) n = .ok () := by
      refine ih fun j hj => ?_
      rw [Nat.add_assoc, Nat.add_comm 1 j]
      exact h (j + 1) (Nat.succ_lt_succ hj)
    rw [State.checkBytes, hrest, show s.checkData a = .ok () from h 0 (Nat.succ_pos n)]
    rfl

theorem checkBytes_error (hn : 0 < n) (h : s.checkData a = .error e) : s.checkBytes a n = .error e := by
  cases n with
  | zero => exact absurd hn (Nat.lt_irrefl 0)
  | succ n => rw [State.checkBytes, h]; rfl

theorem any_range'_eq_true {p : Nat → Bool} : (List.range' a n).any p = true ↔ ∃ j < n, p (a + j) = true := by
  rw [List.range'_eq_map_range]
  simp

theorem any_range'_eq_false {p : Nat → Bool} : (List.range' a n).any p = false ↔ ∀ j < n, p (a + j) = false := by
  rw [List.range'_eq_map_range]
  simp

end

/-! ## A load from memory, a store into the effects of the packet -/

section
variable {s : State} {w : Width} {x v : Word} {e : Stop}

theorem aligned_iff_mod : w.aligned x = true ↔ x.toNat % w.bytes = 0 := by
  rw [Width.aligned, beq_iff_eq]

theorem bytes_pos (w : Width) : 0 < w.bytes := by cases w <;> decide

theorem memRead_misaligned (h : x.toNat % w.bytes ≠ 0) : s.memRead w x = .error (.fault .misalignedAccess) :=
  if_neg (mt aligned_iff_mod.mp h)

theorem memRead_ok_of_bytesAre {b : Nat → Byte} (ha : x.toNat % w.bytes = 0) (hb : s.bytesAre x.toNat w.bytes b) :
    s.memRead w x = .ok (.ofNat 32 (bytesValue s.littleEndian w.bytes b)) := by
  rw [State.memRead, if_pos (aligned_iff_mod.mpr ha), loadBytes_ok hb, ← joinBytes_eq]
  rfl

/-- A load stops where its first byte does. -/
theorem memRead_error (ha : x.toNat % w.bytes = 0) (h : s.loadByte x.toNat = .error e) : s.memRead w x = .error e := by
  rw [State.memRead, if_pos (aligned_iff_mod.mpr ha), loadBytes_error (bytes_pos w) h]
  rfl

theorem memWrite_misaligned (h : x.toNat % w.bytes ≠ 0) : s.memWrite w x v = .error (.fault .misalignedAccess) :=
  if_neg (mt aligned_iff_mod.mp h)

/-- A store stops where the map stops its first byte. -/
theorem memWrite_error (ha : x.toNat % w.bytes = 0) (h : s.checkData x.toNat = .error e) :
    s.memWrite w x v = .error e := by
  rw [State.memWrite, if_pos (aligned_iff_mod.mpr ha), checkBytes_error (bytes_pos w) h]
  rfl

/-- An aligned store whose bytes the map allows. -/
theorem memWrite_checked (ha : x.toNat % w.bytes = 0) (h : ∀ j < w.bytes, s.checkData (x.toNat + j) = .ok ()) :
    s.memWrite w x v =
      if (List.range' x.toNat w.bytes).any s.isText then .error (.fault .storeToProgram)
      else if (List.range' x.toNat w.bytes).any (fun k => s.e1.stores.any (fun c => c.1 == k)) then
        .error (.fault .storeStoreConflict)
      else .ok (s.storesBytes x.toNat w.bytes v) := by
  rw [State.memWrite, if_pos (aligned_iff_mod.mpr ha), checkBytes_ok h, storeCells_eq]
  rfl

theorem memWrite_ok_of_storable (ha : x.toNat % w.bytes = 0) (h : s.storable x.toNat w.bytes) :
    s.memWrite w x v = .ok (s.storesBytes x.toNat w.bytes v) := by
  have hcheck : ∀ j < w.bytes, s.checkData (x.toNat + j) = .ok () := fun j hj => (h j hj).left
  have htext : (List.range' x.toNat w.bytes).any s.isText = false := any_range'_eq_false.mpr fun j hj => by
    obtain ⟨-, hfree, -⟩ := h j hj
    exact hfree
  have hapart : (List.range' x.toNat w.bytes).any (fun k => s.e1.stores.any (fun c => c.1 == k)) = false :=
    any_range'_eq_false.mpr fun j hj => by
      obtain ⟨-, -, hne⟩ := h j hj
      exact List.any_eq_false.mpr fun c hc => mt beq_iff_eq.mp (hne c hc)
  rw [memWrite_checked ha hcheck, htext, hapart, if_neg Bool.false_ne_true, if_neg Bool.false_ne_true]

/-- A store stops on a byte of program text (D18). -/
theorem memWrite_text {j : Nat} (ha : x.toNat % w.bytes = 0) (h : ∀ j < w.bytes, s.checkData (x.toNat + j) = .ok ())
    (hj : j < w.bytes) (ht : s.isText (x.toNat + j) = true) :
    s.memWrite w x v = .error (.fault .storeToProgram) := by
  rw [memWrite_checked ha h, if_pos (any_range'_eq_true.mpr ⟨j, hj, ht⟩)]

/-- A store stops on a byte that the packet has stored to (D26). -/
theorem memWrite_conflict {j : Nat} {c : Host.Cell} (ha : x.toNat % w.bytes = 0)
    (h : ∀ j < w.bytes, s.checkData (x.toNat + j) = .ok ()) (ht : ∀ j < w.bytes, s.isText (x.toNat + j) = false)
    (hj : j < w.bytes) (hc : c ∈ s.e1.stores) (hcj : c.1 = x.toNat + j) :
    s.memWrite w x v = .error (.fault .storeStoreConflict) := by
  have hhit : (List.range' x.toNat w.bytes).any (fun k => s.e1.stores.any (fun c => c.1 == k)) = true :=
    any_range'_eq_true.mpr ⟨j, hj, List.any_eq_true.mpr ⟨c, hc, beq_iff_eq.mpr hcj⟩⟩
  rw [memWrite_checked ha h, any_range'_eq_false.mpr ht, if_neg Bool.false_ne_true, if_pos hhit]

end

end Sys2Proof.Machine
end

section
/-! SUPPORT. Loads and stores at the address of their form (43_load_store.md R553 to R563, R570 to R578). -/

namespace Sys2Proof.Machine

/-! ## The address -/

/-- The address an access with base and offset uses, as a machine word (R553). -/
def State.accessWord (s : State) (o : OpsMem) (w : Width) : Word :=
  usedAddress s o (.ofInt 32 (s.baseAfter o w.scale))

section
variable {s : State} {o : OpsMem} {w : Width}

theorem toNat_accessWord : (s.accessWord o w).toNat = s.accessAddress o w.scale := by
  rw [State.accessWord, usedAddress, State.accessAddress]
  split <;> rfl

theorem bytes_eq_two_pow (w : Width) : w.bytes = 2 ^ w.scale := by cases w <;> rfl

theorem newBase_eq (hmode : s.addrMode o.unit o.base ≠ 3) :
    newBase s o w = .ok (.ofInt 32 (s.baseAfter o w.scale)) := by
  have hoff : memOffset s o w
      = .ofInt 32 ((if o.mode.usesReg then (s.reg o.unit o.offset).toNat else o.offset.toNat) * 2 ^ w.scale : Nat) := by
    rw [← bytes_eq_two_pow, memOffset]
    refine shiftLeft_scale_eq_ofInt w ?_ (Int.natCast_mul ..)
    split
    · exact eq_ofInt_toNat _
    · exact setWidth_eq_ofInt _
  rw [newBase, addrCalc_eq_addressOf o.mode.adds hoff hmode, State.baseAfter, State.byteOffset]
  cases o.mode.adds <;> rfl

theorem newBase_of_mode_three (hmode : s.addrMode o.unit o.base = 3) :
    newBase s o w = .error (.fault .reservedAddressingMode) :=
  addrCalc_of_mode_three _ hmode

end

theorem toNat_address15 (s : State) (o : OpsMem15) (w : Width) :
    (address15 s o w).toNat = s.accessAddress15 o w.scale := by
  have hoff : (o.offset.setWidth 32 <<< w.scale).toNat = o.offset.toNat * 2 ^ w.scale := by
    have := o.offset.isLt
    rw [shiftLeft_eq_ofNat, BitVec.toNat_ofNat, BitVec.toNat_setWidth_of_le (by decide), Nat.mod_eq_of_lt]
    cases w <;> simp only [Width.scale] <;> omega
  rw [address15, BitVec.toNat_add, hoff]
  rfl

/-! ## The two meanings, with the address given -/

section
variable {s : State} {o : OpsMem} {w : Width}

theorem updateBase_eq_setsBase : updateBase s o (.ofInt 32 (s.baseAfter o w.scale)) = s.setsBase o w.scale := rfl

theorem load_eq (hmode : s.addrMode o.unit o.base ≠ 3) (extend : Word → Word) :
    load s o w extend = s.onCond o.cond (outcome do
      let v ← s.memRead w (s.accessWord o w)
      .ok ((s.setsBase o w.scale).putLate o.side o.data (extend v) 4)) := by
  rw [load, newBase_eq hmode]
  rfl

theorem store_eq (hmode : s.addrMode o.unit o.base ≠ 3) :
    store s o w = s.onCond o.cond (outcome do
      let t ← s.memWrite w (s.accessWord o w) (s.reg o.side o.data)
      .ok (updateBase t o (.ofInt 32 (s.baseAfter o w.scale)))) := by
  rw [store, newBase_eq hmode]
  rfl

/-- A store and its base are separate effects. -/
theorem updateBase_storesBytes (a n : Nat) (v new : Word) :
    updateBase (s.storesBytes a n v) o new = (updateBase s o new).storesBytes a n v := by
  unfold updateBase
  split <;> rfl

theorem store_eq_ifHolds (hmode : s.addrMode o.unit o.base ≠ 3) (ha : s.accessAddress o w.scale % w.bytes = 0)
    (hb : s.storable (s.accessAddress o w.scale) w.bytes) :
    store s o w = s.ifHolds o.cond
      ((s.setsBase o w.scale).storesBytes (s.accessAddress o w.scale) w.bytes (s.reg o.side o.data)) := by
  rw [← toNat_accessWord] at ha hb ⊢
  rw [store_eq hmode, memWrite_ok_of_storable ha hb]
  exact (congrArg _ (congrArg _ (updateBase_storesBytes ..))).trans (onCond_eq_ifHolds ..)

theorem load_eq_ifHolds {b : Nat → Byte} {extend : Word → Word} {v : Int} (hmode : s.addrMode o.unit o.base ≠ 3)
    (hext : extend (.ofNat 32 (bytesValue s.littleEndian w.bytes b)) = .ofInt 32 v)
    (ha : s.accessAddress o w.scale % w.bytes = 0) (hb : s.bytesAre (s.accessAddress o w.scale) w.bytes b) :
    load s o w extend = s.ifHolds o.cond ((s.setsBase o w.scale).setsLate o.side o.data v 4) := by
  rw [← toNat_accessWord] at ha hb
  rw [load_eq hmode, memRead_ok_of_bytesAre ha hb, State.setsLate, ← hext]
  exact onCond_eq_ifHolds ..

end

section
variable {s : State} {o : OpsMem15} {w : Width}

theorem store15_eq_ifHolds (ha : s.accessAddress15 o w.scale % w.bytes = 0)
    (hb : s.storable (s.accessAddress15 o w.scale) w.bytes) :
    store15 s o w
      = s.ifHolds o.cond (s.storesBytes (s.accessAddress15 o w.scale) w.bytes (s.reg o.side o.data)) := by
  rw [← toNat_address15] at ha hb ⊢
  rw [store15, memWrite_ok_of_storable ha hb]
  exact onCond_eq_ifHolds ..

theorem load15_eq_ifHolds {b : Nat → Byte} {extend : Word → Word} {v : Int}
    (hext : extend (.ofNat 32 (bytesValue s.littleEndian w.bytes b)) = .ofInt 32 v)
    (ha : s.accessAddress15 o w.scale % w.bytes = 0) (hb : s.bytesAre (s.accessAddress15 o w.scale) w.bytes b) :
    load15 s o w extend = s.ifHolds o.cond (s.setsLate o.side o.data v 4) := by
  rw [← toNat_address15] at ha hb
  rw [load15, memRead_ok_of_bytesAre ha hb, State.setsLate, ← hext]
  exact onCond_eq_ifHolds ..

end

/-- Settles O53: each store is one of the two forms at its width. -/
theorem storesOfBothForms : Obligations.StoresOfBothForms := fun _ =>
  ⟨fun _ => ⟨store_eq_ifHolds (w := .byte), store_eq_ifHolds (w := .half), store_eq_ifHolds (w := .word)⟩,
    fun _ => ⟨store15_eq_ifHolds (w := .byte), store15_eq_ifHolds (w := .half), store15_eq_ifHolds (w := .word)⟩⟩

/-! ## Extension of a loaded value -/

theorem signExtend_low {m : Nat} (k : Nat) (hm : m ≤ 32) :
    ((BitVec.ofNat 32 k).setWidth m).signExtend 32 = .ofInt 32 (Int.bmod k (2 ^ m)) := by
  rw [BitVec.setWidth_ofNat_of_le hm, signExtend_eq_ofInt, BitVec.toInt_ofNat']

theorem id_ofNat (k : Nat) : id (BitVec.ofNat 32 k) = .ofInt 32 k := (BitVec.ofInt_natCast 32 k).symm

theorem sext8_ofNat (k : Nat) : sext8 (.ofNat 32 k) = .ofInt 32 (Int.bmod k (2 ^ 8)) := signExtend_low k (by decide)

theorem sext16_ofNat (k : Nat) : sext16 (.ofNat 32 k) = .ofInt 32 (Int.bmod k (2 ^ 16)) := signExtend_low k (by decide)

/-- Settles O58: each load is one of the two forms at its width, with its extension. -/
theorem loadsOfBothForms : Obligations.LoadsOfBothForms := by
  intro s b e
  refine ⟨fun o => ?_, fun o => ?_⟩
  · exact ⟨
      fun hmode => load_eq_ifHolds (w := .byte) hmode (id_ofNat _),
      fun hmode => load_eq_ifHolds (w := .byte) hmode (sext8_ofNat _),
      fun hmode => load_eq_ifHolds (w := .half) hmode (id_ofNat _),
      fun hmode => load_eq_ifHolds (w := .half) hmode (sext16_ofNat _),
      fun hmode => load_eq_ifHolds (w := .word) hmode (id_ofNat _)⟩
  · exact ⟨
      load15_eq_ifHolds (w := .byte) (id_ofNat _), load15_eq_ifHolds (w := .byte) (sext8_ofNat _),
      load15_eq_ifHolds (w := .half) (id_ofNat _), load15_eq_ifHolds (w := .half) (sext16_ofNat _),
      load15_eq_ifHolds (w := .word) (id_ofNat _)⟩

end Sys2Proof.Machine
end

section
/-! SUPPORT. Where loads and stores stop (20_memory.md R143, R146, R156, R182, R186, 43_load_store.md R564). -/

namespace Sys2Proof.Machine

/-! ## The stops of an access, whatever its form -/

/-- The stops that loads and stores share: a misaligned address, and a first byte that the map does not allow. -/
def State.AccessStops (s : State) (out : Out) (a n : Nat) : Prop :=
  (1 < n → a % n ≠ 0 → out = .fault .misalignedAccess)
    ∧ (a % n = 0 → s.dataRegion a = none → out = .fault .unmappedAccess)
    ∧ (∀ r, a % n = 0 → s.dataRegion a = some r → r.space = .peripheral → out = .refused .peripheralAccess)

/-- The stops of a load: also a first byte without a value (R146). -/
def State.LoadStops (s : State) (out : Out) (a n : Nat) : Prop :=
  s.AccessStops out a n
    ∧ (a % n = 0 → s.checkData a = .ok () → s.mem.read a = none → out = .fault .uninitialisedMemory)

/-- The stops of a store: also a byte of program text (R186) or of another store of the packet (R182). -/
def State.StoreStops (s : State) (out : Out) (a n : Nat) : Prop :=
  s.AccessStops out a n ∧ (a % n = 0 → (∀ j < n, s.checkData (a + j) = .ok ()) →
    (∀ j < n, s.isText (a + j) = true → out = .fault .storeToProgram)
    ∧ ((∀ j < n, s.isText (a + j) = false) → ∀ j < n, ∀ c ∈ s.e1.stores, c.1 = a + j →
      out = .fault .storeStoreConflict))

section
variable {s : State} {out : Out} {x v : Word} {w : Width}

theorem checkData_unmapped {a : Nat} (h : s.dataRegion a = none) : s.checkData a = .error (.fault .unmappedAccess) := by
  rw [State.checkData, h]

theorem checkData_peripheral {a : Nat} {r : Config.Region} (h : s.dataRegion a = some r) (hr : r.space = .peripheral) :
    s.checkData a = .error (.refused .peripheralAccess) := by
  rw [State.checkData, h]
  exact if_pos hr

theorem loadByte_error {a : Nat} {e : Stop} (h : s.checkData a = .error e) : s.loadByte a = .error e := by
  rw [State.loadByte, h]
  rfl

theorem loadByte_uninitialised {a : Nat} (h : s.checkData a = .ok ()) (hread : s.mem.read a = none) :
    s.loadByte a = .error (.fault .uninitialisedMemory) := by
  simp only [State.loadByte, h, hread, bind, Except.bind]

/-- An access stops as the map stops its first byte, unless it is misaligned. -/
theorem accessStops_of_error
    (hmisaligned : x.toNat % w.bytes ≠ 0 → out = outcome (.error (.fault .misalignedAccess)))
    (hmap : ∀ e, x.toNat % w.bytes = 0 → s.checkData x.toNat = .error e → out = outcome (.error e)) :
    s.AccessStops out x.toNat w.bytes :=
  ⟨fun _ => hmisaligned, fun ha hnone => hmap _ ha (checkData_unmapped hnone),
    fun _ ha hsome hr => hmap _ ha (checkData_peripheral hsome hr)⟩

/-- What passes on the stops of its load from memory. -/
theorem loadStops_of_memRead (h : ∀ e, s.memRead w x = .error e → out = outcome (.error e)) :
    s.LoadStops out x.toNat w.bytes := by
  refine ⟨accessStops_of_error (fun ha => ?_) fun e ha he => ?_, fun ha hcheck hread => ?_⟩
  · exact h _ (memRead_misaligned ha)
  · exact h e (memRead_error ha (loadByte_error he))
  · exact h _ (memRead_error ha (loadByte_uninitialised hcheck hread))

/-- What passes on the stops of its store to memory. -/
theorem storeStops_of_memWrite (h : ∀ e, s.memWrite w x v = .error e → out = outcome (.error e)) :
    s.StoreStops out x.toNat w.bytes := by
  refine ⟨accessStops_of_error (fun ha => ?_) fun e ha he => ?_,
    fun ha hcheck => ⟨fun j hj ht => ?_, fun ht j hj c hc hcj => ?_⟩⟩
  · exact h _ (memWrite_misaligned ha)
  · exact h e (memWrite_error ha he)
  · exact h _ (memWrite_text ha hcheck hj ht)
  · exact h _ (memWrite_conflict ha hcheck ht hj hc hcj)

end

/-! ## The four meanings -/

section
variable {s : State} {o : OpsMem} (w : Width) (hcond : s.holds o.cond = true)
include hcond

theorem load_of_mode_three (hmode : s.addrMode o.unit o.base = 3) (extend : Word → Word) :
    load s o w extend = .fault .reservedAddressingMode := by
  rw [load, newBase_of_mode_three hmode]
  exact onCond_holds _ hcond

theorem store_of_mode_three (hmode : s.addrMode o.unit o.base = 3) :
    store s o w = .fault .reservedAddressingMode := by
  rw [store, newBase_of_mode_three hmode]
  exact onCond_holds _ hcond

theorem loadStops_load (hmode : s.addrMode o.unit o.base ≠ 3) (extend : Word → Word) :
    s.LoadStops (load s o w extend) (s.accessAddress o w.scale) w.bytes := by
  rw [← toNat_accessWord]
  refine loadStops_of_memRead fun e he => ?_
  rw [load_eq hmode, he]
  exact onCond_holds _ hcond

theorem storeStops_store (hmode : s.addrMode o.unit o.base ≠ 3) :
    s.StoreStops (store s o w) (s.accessAddress o w.scale) w.bytes := by
  rw [← toNat_accessWord]
  refine storeStops_of_memWrite (v := s.reg o.side o.data) fun e he => ?_
  rw [store_eq hmode, he]
  exact onCond_holds _ hcond

end

section
variable {s : State} {o : OpsMem15} (w : Width) (hcond : s.holds o.cond = true)
include hcond

theorem loadStops_load15 (extend : Word → Word) :
    s.LoadStops (load15 s o w extend) (s.accessAddress15 o w.scale) w.bytes := by
  rw [← toNat_address15]
  refine loadStops_of_memRead fun e he => ?_
  rw [load15, he]
  exact onCond_holds _ hcond

theorem storeStops_store15 : s.StoreStops (store15 s o w) (s.accessAddress15 o w.scale) w.bytes := by
  rw [← toNat_address15]
  refine storeStops_of_memWrite (v := s.reg o.side o.data) fun e he => ?_
  rw [store15, he]
  exact onCond_holds _ hcond

end

/-- Settles O59: the reserved mode stops the address calculation, every other stop is one of the access to memory. -/
theorem stopsOfLoadsAndStores : Obligations.StopsOfLoadsAndStores := by
  intro s stops loadStops storeStops
  refine ⟨fun o hcond => ⟨fun hmode => ?_, fun hmode => ?_⟩, fun o hcond => ?_⟩
  · simp only [List.forall_mem_cons]
    exact ⟨load_of_mode_three .byte hcond hmode _, load_of_mode_three .byte hcond hmode _,
      load_of_mode_three .half hcond hmode _, load_of_mode_three .half hcond hmode _,
      load_of_mode_three .word hcond hmode _, store_of_mode_three .byte hcond hmode,
      store_of_mode_three .half hcond hmode, store_of_mode_three .word hcond hmode, List.forall_mem_nil _⟩
  · exact ⟨loadStops_load .byte hcond hmode _, loadStops_load .byte hcond hmode _,
      loadStops_load .half hcond hmode _, loadStops_load .half hcond hmode _, loadStops_load .word hcond hmode _,
      storeStops_store .byte hcond hmode, storeStops_store .half hcond hmode, storeStops_store .word hcond hmode⟩
  · exact ⟨loadStops_load15 .byte hcond _, loadStops_load15 .byte hcond _, loadStops_load15 .half hcond _,
      loadStops_load15 .half hcond _, loadStops_load15 .word hcond _, storeStops_store15 .byte hcond,
      storeStops_store15 .half hcond, storeStops_store15 .word hcond⟩

end Sys2Proof.Machine
end

section
/-! SUPPORT. One instruction alone in a quiet state, through the whole cycle (70_reset_and_hazards.md R801, R804). -/

namespace Sys2Proof.Machine

/-! ## The packet of one word -/

theorem timesIn_le_length {α : Type} [DecidableEq α] (x : α) (l : List α) : timesIn x l ≤ l.length := by
  induction l with
  | nil => exact Nat.le_refl 0
  | cons y l ih =>
    rw [timesIn, List.length_cons]
    split <;> omega

theorem hasTwice_toList {α : Type} [DecidableEq α] (x : Option α) : hasTwice x.toList = false := by
  cases x <;> rfl

theorem filterMap_singleton {α β : Type} (f : α → Option β) (x : α) : [x].filterMap f = (f x).toList := by
  cases h : f x <;> simp [h]

/-- An instruction alone breaks a constraint only by reading more than four registers, or a long source with a store. -/
theorem packetError_singleton {i : Instr} (hreads : i.use.reads.length ≤ 4)
    (hlong : i.use.longSource = none ∨ i.use.storeFile = none) : packetError [i] = none := by
  have hstore : i.use.longSource.toList.any (fun f => decide (f ∈ i.use.storeFile.toList)) = false := by
    rcases hlong with h | h <;> simp [h]
  have hfew : i.use.reads.any (fun r => decide (4 < timesIn r i.use.reads)) = false := by
    simp only [List.any_eq_false, decide_eq_true_eq, Nat.not_lt]
    exact fun r _ => Nat.le_trans (timesIn_le_length r _) hreads
  simp only [packetError, List.map_singleton, filterMap_singleton, hasTwice_toList, List.flatMap_singleton, hstore,
    hfew, Bool.false_eq_true, if_false]

section
variable {s u : State} {w : Word} {i : Instr}

/-- In a quiet state the environment brings nothing. -/
theorem quiet_takeEnv (hs : s.Quiet) : s.takeEnv = s := by
  have henv : s.env.tail = s.env := by rw [hs.env]; rfl
  have hlatch : s.intLatch ||| (s.envNow.arrive &&& interruptMask) = s.intLatch := by
    rw [State.envNow, hs.env, hs.latch]; rfl
  rw [State.takeEnv, henv, hlatch]

/-- In a quiet state the lone instruction at pc is in E1, and the cycle ends on its effects. -/
theorem step_eq_endCycle (hs : s.Quiet) (hpc : s.pc.toNat % 4 = 0) (hw : s.fetchWord s.pc = .ok w)
    (hp : w.getLsbD 0 = false) (hi : decode w = .ok i) (hlegal : packetError [i] = none) (hu : exec i s = .next u) :
    step s = u.endCycle (some 1) := by
  have hreset : ¬ s.envNow.reset = true := by rw [State.envNow, hs.env]; exact Bool.false_ne_true
  have hheld : ¬ s.held = true := by rw [State.held, hs.entry, hs.power, hs.hold]; decide
  have hfetch : s.fetchPacket = .ok [w] := by
    rw [State.fetchPacket, if_neg (not_not_intro ((aligned_iff _).mpr hpc)), fetchChain_last hw hp]
  have hpacket : s.packet = .ok [i] := by
    simp only [State.packet, hfetch, decodeAll, hi, hlegal, bind, Except.bind]
  rw [step, State.cycle, if_neg hreset, quiet_takeEnv hs, if_neg hheld, hpacket]
  simp only [runPacket, hu, List.length_singleton]

end

/-! ## The end of its cycle -/

/-- `s` with register writes and stores in E1, and some free values drawn. -/
def State.inE1 (s : State) (regs : List RegWrite) (cells : List Host.Cell) (k : Nat) : State :=
  { s with e1 := { regs := regs, stores := cells }, freeIdx := k }

/-- Register writes change the two register files alone. -/
theorem writeRegs_rest (ws : List RegWrite) (s : State) :
    ws.foldl State.writeReg s
      = { s with a := (ws.foldl State.writeReg s).a, b := (ws.foldl State.writeReg s).b } := by
  induction ws generalizing s with
  | nil => rfl
  | cons w ws ih =>
    rw [List.foldl_cons, ih]
    unfold State.writeReg
    split <;> rfl

/-- `s` past the word at pc, with register writes and stores landed. -/
def State.landed (s : State) (regs : List RegWrite) (cells : List Host.Cell) (k : Nat) : State :=
  { regs.foldl State.writeReg s with mem := s.mem.writeAll cells, pc := s.pc + 4, freeIdx := k }

theorem landed_rest (s : State) (regs : List RegWrite) (cells : List Host.Cell) (k : Nat) :
    s.landed regs cells k
      = { s with
          a := (s.landed regs cells k).a, b := (s.landed regs cells k).b, mem := (s.landed regs cells k).mem,
          pc := s.pc + 4, freeIdx := k } := by
  unfold State.landed
  rw [writeRegs_rest]

theorem file_landed {s : State} {regs : List RegWrite} {cells : List Host.Cell} {k : Nat}
    (hregs : hasTwice (regs.map RegWrite.target) = false) (d : Side) (n : BitVec 4) :
    ((s.landed regs cells k).file d).read n
      = ((regs.find? (fun w => w.target == (d, n))).map RegWrite.value).getD ((s.file d).read n) := by
  rw [← file_writeRegs regs s d n hregs]
  cases d <;> rfl

/-- Landing does not look at the effects. -/
theorem writeRegs_inE1 (ws : List RegWrite) (s : State) (regs : List RegWrite) (cells : List Host.Cell) (k : Nat) :
    ws.foldl State.writeReg (s.inE1 regs cells k) = (ws.foldl State.writeReg s).inE1 regs cells k := by
  induction ws generalizing s with
  | nil => rfl
  | cons w ws ih =>
    have hone : (s.inE1 regs cells k).writeReg w = (s.writeReg w).inE1 regs cells k := by
      unfold State.writeReg
      split <;> rfl
    rw [List.foldl_cons, hone, ih, List.foldl_cons]

/-- The registers, the bytes of memory and the program pointer play no part in being quiet. -/
theorem quiet_with {s : State} (hs : s.Quiet) (fa fb : RegFile) (m : Memory) (pc : Word) :
    ({ s with a := fa, b := fb, mem := m, pc := pc } : State).Quiet :=
  ⟨hs.regs, hs.branches, hs.shadow, hs.sat, hs.command, hs.hold, hs.latch, hs.entry, hs.ack, hs.number, hs.power,
    hs.env, hs.effects, hs.none⟩

section
variable {s : State} (hs : s.Quiet) (regs : List RegWrite) (cells : List Host.Cell) (k : Nat)
include hs

theorem quiet_nextIfr : (s.inE1 regs cells k).nextIfr = s.ifr := by
  have hclear : s.hardwareClear = 0 := by rw [State.hardwareClear, hs.entry]; rfl
  change (s.ifr &&& ~~~((s.pendingIfr.clear ||| s.hardwareClear).setWidth 32))
    ||| (s.pendingIfr.set ||| s.intLatch).setWidth 32 = s.ifr
  rw [hclear, hs.command, hs.latch, show (0 : BitVec 16) ||| 0 = 0 from rfl,
    show BitVec.setWidth 32 (0 : BitVec 16) = 0 from rfl]
  exact BitVec.or_zero.trans BitVec.and_allOnes

theorem quiet_decision : (s.inE1 regs cells k).decision = none := by
  rw [State.decision, quiet_nextIfr hs]
  simp only [State.inE1, hs.none, ite_self]

theorem quiet_retire (hregs : hasTwice (regs.map RegWrite.target) = false) :
    (s.inE1 regs cells k).retire = .ok ((regs.foldl State.writeReg s).inE1 regs cells k) := by
  have hland : (s.inE1 regs cells k).landing = regs := by rw [State.landing, State.inE1, hs.regs]; rfl
  rw [State.retire, hland, hregs, writeRegs_inE1, writeRegs_rest, State.inE1, State.inE1, hs.regs]
  rfl

theorem quiet_updateControl : (s.inE1 regs cells k).commitStores.updateControl
    = ({ s with mem := s.mem.writeAll cells } : State).inE1 regs cells k := by
  have hifr : (s.inE1 regs cells k).commitStores.nextIfr = s.ifr := quiet_nextIfr hs regs cells k
  rw [State.updateControl, State.updateSat, State.updateFlags, hifr]
  simp [State.commitStores, State.inE1, hs.sat, hs.command, hs.latch, hs.entry, hs.ack, hs.number]

theorem quiet_advancePc (hpc : s.pc.toNat + 4 < 2 ^ 32) :
    (s.inE1 regs cells k).advancePc (some 1) = .ok (({ s with pc := s.pc + 4 } : State).inE1 regs cells k) := by
  have hlt : s.pc.toNat + 4 * 1 < 4294967296 := hpc
  simp only [State.advancePc, State.nextBranches, State.inE1, hs.branches, hs.hold, List.find?_nil, if_pos hlt]
  rfl

theorem quiet_countDown : (s.inE1 regs cells k).countDown (s.inE1 regs cells k).nextShadow (s.inE1 regs cells k).wakes
    = { s with freeIdx := k } := by
  simp [State.countDown, State.nextShadow, State.wakes, State.inE1, hs.power, hs.shadow, hs.entry, hs.effects]

/-- Register writes and stores alone take a quiet state to the one with them landed. -/
theorem quiet_endCycle (hpc : s.pc.toNat + 4 < 2 ^ 32) (hregs : hasTwice (regs.map RegWrite.target) = false) :
    (s.inE1 regs cells k).endCycle (some 1) = .next (s.landed regs cells k) := by
  have hretire := quiet_retire hs regs cells k hregs
  obtain ⟨fa, fb, hfiles⟩ : ∃ fa fb, regs.foldl State.writeReg s = { s with a := fa, b := fb } :=
    ⟨_, _, writeRegs_rest regs s⟩
  have hcontrol := quiet_updateControl (quiet_with hs fa fb s.mem s.pc) regs cells k
  have hadvance := quiet_advancePc (quiet_with hs fa fb (s.mem.writeAll cells) s.pc) regs cells k hpc
  have hcount := quiet_countDown (quiet_with hs fa fb (s.mem.writeAll cells) (s.pc + 4)) regs cells k
  rw [State.landed, State.endCycle, hretire, hfiles, quiet_decision hs]
  simp only [bind, Except.bind]
  rw [hcontrol]
  simp only [hadvance]
  exact congrArg _ hcount

end

/-- A lone instruction that writes registers and stores, in a quiet state. -/
theorem step_eq_landed {s : State} {w : Word} {i : Instr} {regs : List RegWrite} {cells : List Host.Cell} {k : Nat}
    (hs : s.Quiet) (hpc : s.pc.toNat % 4 = 0) (hend : s.pc.toNat + 4 < 2 ^ 32) (hw : s.fetchWord s.pc = .ok w)
    (hp : w.getLsbD 0 = false) (hi : decode w = .ok i) (hlegal : packetError [i] = none)
    (hexec : exec i s = .next (s.inE1 regs cells k)) (hregs : hasTwice (regs.map RegWrite.target) = false) :
    step s = .next (s.landed regs cells k) :=
  (step_eq_endCycle hs hpc hw hp hi hlegal hexec).trans (quiet_endCycle hs regs cells k hend hregs)

end Sys2Proof.Machine
end

section
/-! SUPPORT. A store through a whole step (43_load_store.md R553, R554, R560 to R563, R576 to R578, 20_memory.md R150,
R151, R180). -/

namespace Sys2Proof.Machine

/-! ## The effects of a store -/

/-- The bytes of a store, in address order. -/
def State.storedCells (s : State) (a n : Nat) (v : Word) : List Host.Cell :=
  (List.range n).map (fun i => (a + i, .ofNat 8 (v.toNat / byteWeight s.littleEndian n i)))

/-- The write of the base register, where the mode asks for it. -/
def State.baseWrites (s : State) (o : OpsMem) (k : Nat) : List RegWrite :=
  if o.mode.modifies then [{ side := o.unit, reg := o.base.setWidth 4, value := .ofInt 32 (s.baseAfter o k) }] else []

section
variable {s : State} {a n k : Nat} {v : Word}

theorem mem_storedCells {c : Host.Cell} :
    c ∈ s.storedCells a n v ↔ ∃ j < n, (a + j, .ofNat 8 (v.toNat / byteWeight s.littleEndian n j)) = c := by
  simp only [State.storedCells, List.mem_map, List.mem_range]

theorem read_storedCells (m : Memory) {j : Nat} (hj : j < n) :
    (m.writeAll (s.storedCells a n v)).read (a + j) = some (.ofNat 8 (v.toNat / byteWeight s.littleEndian n j)) := by
  refine Memory.read_writeAll_of_unique m (mem_storedCells.mpr ⟨j, hj, rfl⟩) fun d hd haddr => ?_
  obtain ⟨i, -, rfl⟩ := mem_storedCells.mp hd
  rw [Nat.add_left_cancel haddr]

theorem read_storedCells_other (m : Memory) {b : Nat} (hb : ∀ j < n, a + j ≠ b) :
    (m.writeAll (s.storedCells a n v)).read b = m.read b := by
  refine Memory.read_writeAll_other _ _ _ fun c hc => ?_
  obtain ⟨j, hj, rfl⟩ := mem_storedCells.mp hc
  exact hb j hj

theorem storesBytes_eq_inE1 (he : s.e1 = {}) :
    s.storesBytes a n v = s.inE1 [] (s.storedCells a n v) s.freeIdx := by
  rw [State.storesBytes, he]
  rfl

theorem setsBase_storesBytes_eq_inE1 {o : OpsMem} (he : s.e1 = {}) :
    (s.setsBase o k).storesBytes a n v = s.inE1 (s.baseWrites o k) (s.storedCells a n v) s.freeIdx := by
  unfold State.setsBase State.baseWrites
  split
  · rw [State.sets, State.putReg, State.storesBytes, he]
    rfl
  · exact storesBytes_eq_inE1 he

theorem baseWrites_once (s : State) (o : OpsMem) (k : Nat) :
    hasTwice ((s.baseWrites o k).map RegWrite.target) = false := by
  unfold State.baseWrites
  split <;> rfl

/-- A register that the base write does not go to. -/
theorem find_baseWrites_other {o : OpsMem} {d : Side} {r : BitVec 4}
    (h : ¬ (o.mode.modifies = true ∧ d = o.unit ∧ r = o.base.setWidth 4)) :
    (s.baseWrites o k).find? (fun w => w.target == (d, r)) = none := by
  rw [List.find?_eq_none]
  intro w hw
  unfold State.baseWrites at hw
  split at hw
  · next hm =>
    rw [List.mem_singleton.mp hw]
    intro htarget
    have hpair : (o.unit, o.base.setWidth 4) = (d, r) := beq_iff_eq.mp htarget
    exact h ⟨hm, (congrArg Prod.fst hpair).symm, (congrArg Prod.snd hpair).symm⟩
  · cases hw

theorem find_baseWrites_base {o : OpsMem} (h : o.mode.modifies = true) :
    ((s.baseWrites o k).find? (fun w => w.target == (o.unit, o.base.setWidth 4))).map RegWrite.value
      = some (.ofInt 32 (s.baseAfter o k)) := by
  have hbeq : ((o.unit, o.base.setWidth 4) == (o.unit, o.base.setWidth 4)) = true := beq_self_eq_true _
  rw [State.baseWrites, if_pos h, List.find?_cons]
  simp only [RegWrite.target, hbeq, Option.map_some]

end

/-! ## A store alone in its packet -/

theorem packetError_store {i : Instr} {o : OpsMem} (h : i.use = useMem true o) : packetError [i] = none := by
  refine packetError_singleton ?_ (.inl (by rw [h]; rfl))
  rw [h, useMem]
  cases o.mode.usesReg <;> exact Nat.le_of_ble_eq_true rfl

theorem packetError_store15 {i : Instr} {o : OpsMem15} (h : i.use = useMem15 true o) : packetError [i] = none := by
  refine packetError_singleton ?_ (.inl (by rw [h]; rfl))
  rw [h]
  exact Nat.le_of_ble_eq_true rfl

/-- The three widths of one form, as one store at a width. -/
theorem exec_store_width {i : Instr} {o : OpsMem} {k n : Nat}
    (h : i = .stb o ∧ k = 0 ∧ n = 1 ∨ i = .sth o ∧ k = 1 ∧ n = 2 ∨ i = .stw o ∧ k = 2 ∧ n = 4) :
    i.use = useMem true o ∧ ∃ w : Width, k = w.scale ∧ n = w.bytes ∧ exec i = fun s => store s o w := by
  rcases h with ⟨rfl, rfl, rfl⟩ | ⟨rfl, rfl, rfl⟩ | ⟨rfl, rfl, rfl⟩
  · exact ⟨rfl, .byte, rfl, rfl, rfl⟩
  · exact ⟨rfl, .half, rfl, rfl, rfl⟩
  · exact ⟨rfl, .word, rfl, rfl, rfl⟩

theorem exec_store15_width {i : Instr} {o : OpsMem15} {k n : Nat}
    (h : i = .stb15 o ∧ k = 0 ∧ n = 1 ∨ i = .sth15 o ∧ k = 1 ∧ n = 2 ∨ i = .stw15 o ∧ k = 2 ∧ n = 4) :
    i.use = useMem15 true o ∧ ∃ w : Width, k = w.scale ∧ n = w.bytes ∧ exec i = fun s => store15 s o w := by
  rcases h with ⟨rfl, rfl, rfl⟩ | ⟨rfl, rfl, rfl⟩ | ⟨rfl, rfl, rfl⟩
  · exact ⟨rfl, .byte, rfl, rfl, rfl⟩
  · exact ⟨rfl, .half, rfl, rfl, rfl⟩
  · exact ⟨rfl, .word, rfl, rfl, rfl⟩

/-- Settles O36: the one effect of a store that the cycle lands besides its bytes is the write of its base. -/
theorem storeStepChangesItsBytesAndBaseOnly : Obligations.StoreStepChangesItsBytesAndBaseOnly := by
  constructor
  · intro s w o k n i hstore hs hpc hend hw hp hi hcond hmode ha hb
    obtain ⟨huse, width, rfl, rfl, hexec⟩ := exec_store_width hstore
    have hexec := (congrFun hexec s).trans (store_eq_ifHolds hmode ha hb)
    rw [State.ifHolds, if_pos hcond, setsBase_storesBytes_eq_inE1 hs.effects] at hexec
    have hregs := baseWrites_once s o width.scale
    refine ⟨_, step_eq_landed hs hpc hend hw hp hi (packetError_store huse) hexec hregs, landed_rest ..,
      fun j hj => read_storedCells s.mem hj, fun b hother => read_storedCells_other s.mem hother,
      fun d r hr => ?_, fun hm => ?_⟩
    · rw [file_landed hregs, find_baseWrites_other hr]
      rfl
    · rw [State.reg, file_landed hregs, find_baseWrites_base hm]
      rfl
  · intro s w o k n i hstore hs hpc hend hw hp hi hcond ha hb
    obtain ⟨huse, width, rfl, rfl, hexec⟩ := exec_store15_width hstore
    have hexec := (congrFun hexec s).trans (store15_eq_ifHolds ha hb)
    rw [State.ifHolds, if_pos hcond, storesBytes_eq_inE1 hs.effects] at hexec
    exact ⟨_, step_eq_landed hs hpc hend hw hp hi (packetError_store15 huse) hexec rfl, rfl,
      fun j hj => read_storedCells s.mem hj, fun b hother => read_storedCells_other s.mem hother⟩

end Sys2Proof.Machine
end

section
/-! SUPPORT. What the four branches do in E1: taken, not taken, and the two faults (44_branch.md R601 to R620). -/

namespace Sys2Proof.Machine

variable {s t : State} {c : Cond} {target : Word} {taken : Except Stop State} {e : Stop}

/-! ## A taken branch -/

theorem takeBranch_aligned (ha : target.toNat % 4 = 0) (hb : s.e1.branch = none) :
    s.takeBranch target = .ok { s with e1 := { s.e1 with branch := some target } } := by
  unfold State.takeBranch
  rw [if_neg (Decidable.not_not.mpr ((aligned_iff target).mpr ha)), hb]

theorem takeBranch_misaligned (ha : target.toNat % 4 ≠ 0) :
    s.takeBranch target = .error (.fault .misalignedBranchTarget) :=
  if_pos (mt (aligned_iff target).mp ha)

theorem takeBranch_second (ha : target.toNat % 4 = 0) (hb : s.e1.branch ≠ none) :
    s.takeBranch target = .error (.fault .doubleBranch) := by
  unfold State.takeBranch
  rw [if_neg (Decidable.not_not.mpr ((aligned_iff target).mpr ha))]
  cases h : s.e1.branch with
  | none => exact absurd h hb
  | some _ => rfl

theorem returnFromInterrupt_of_takeBranch (h : s.takeBranch s.irp = .ok t) :
    s.returnFromInterrupt = .ok (t.putCtrl .returnIrp) := bind_ok.mpr ⟨t, h, rfl⟩

theorem returnFromNmi_of_takeBranch (h : s.takeBranch s.nrp = .ok t) :
    s.returnFromNmi = .ok (t.putCtrl .returnNrp) := bind_ok.mpr ⟨t, h, rfl⟩

/-- What stops the branch of a return stops the return. -/
theorem bind_error {α β : Type} {x : Except Stop α} {f : α → Except Stop β} (h : x = .error e) :
    (x >>= f) = .error e := by
  rw [h]
  rfl

/-! ## On the condition -/

theorem branch_taken (hc : s.holds c = true) (h : taken = .ok t) : branch s c taken = .next t.noteBranch := by
  rw [branch, if_pos hc, h]
  rfl

theorem branch_stops (hc : s.holds c = true) (h : taken = .error e) : branch s c taken = outcome (.error e) := by
  rw [branch, if_pos hc, h]
  rfl

theorem branch_untaken (hc : s.holds c = false) : branch s c taken = .next s.noteBranch := by
  rw [branch, hc]
  rfl

/-! ## The target of the displacement form -/

/-- The address of the fetch packet is a multiple of 32 (10_state.md R75). -/
theorem pce1_eq_ofInt (s : State) : s.pce1 = .ofInt 32 (s.pc.toNat / 32 * 32 : Nat) := by
  have h := maskedJoin_eq s.pc 0#32 5
  rw [BitVec.zero_and, BitVec.or_zero] at h
  rw [BitVec.ofInt_natCast, Nat.mul_comm]
  exact h

theorem displacementTarget_eq (s : State) (o : OpsBr) :
    displacementTarget s o = .ofInt 32 ((s.pc.toNat / 32 * 32 : Nat) + o.cst.toInt * 4) :=
  add_eq_ofInt (pce1_eq_ofInt s) (shiftLeft_eq_ofInt 2 (signExtend_eq_ofInt o.cst))

theorem displacementTarget_aligned (s : State) (o : OpsBr) : (displacementTarget s o).toNat % 4 = 0 := by
  rw [displacementTarget_eq, BitVec.toNat_ofInt]
  omega

/-! ## The four branches -/

/-- Settles O51: each form is a branch to its target; the returns also ask for their control-register write. -/
theorem branchesCompleteInE1 : Obligations.BranchesCompleteInE1 := by
  intro s
  refine ⟨fun o => ?_, fun o => ⟨fun hc hb ha => ?_, branch_untaken⟩, fun o => ⟨fun hc hb ha => ?_, branch_untaken⟩,
    fun o => ⟨fun hc hb ha => ?_, branch_untaken⟩⟩
  · have ha := displacementTarget_aligned s o
    rw [← displacementTarget_eq]
    exact ⟨ha, fun hc hb => branch_taken hc (takeBranch_aligned ha hb), branch_untaken⟩
  · exact branch_taken hc (takeBranch_aligned ha hb)
  · exact branch_taken hc (returnFromInterrupt_of_takeBranch (takeBranch_aligned ha hb))
  · exact branch_taken hc (returnFromNmi_of_takeBranch (takeBranch_aligned ha hb))

/-- Settles O52: a branch whose condition holds stops where taking its target stops. -/
theorem branchFaults : Obligations.BranchFaults := by
  intro s
  refine ⟨fun o hc => ⟨fun ha => ?_, fun ha hb => ?_⟩, fun o hc hb => ?_,
    fun o hc => ⟨fun ha => ?_, fun ha hb => ?_, fun ha => ?_, fun ha hb => ?_⟩⟩
  · exact branch_stops hc (takeBranch_misaligned ha)
  · exact branch_stops hc (takeBranch_second ha hb)
  · exact branch_stops hc (takeBranch_second (displacementTarget_aligned s o) hb)
  · exact branch_stops hc (bind_error (takeBranch_misaligned ha))
  · exact branch_stops hc (bind_error (takeBranch_second ha hb))
  · exact branch_stops hc (bind_error (takeBranch_misaligned ha))
  · exact branch_stops hc (bind_error (takeBranch_second ha hb))

end Sys2Proof.Machine
end

section
/-! SUPPORT. A taken branch from E1 to its target: the number of its delay slots, the cycles in which it stays in flight
and the one in which it lands (44_branch.md R601 to R603, 60_exceptions.md R733). -/

namespace Sys2Proof.Machine

/-! ## Runs -/

section
variable {s t u : State} {n : Nat}

theorem run_succ_next : run (n + 1) s = .next u ↔ ∃ t, step s = .next t ∧ run n t = .next u := by
  rw [run]
  cases step s <;> simp

/-- No Reset in n + 1 cycles: none in the first, none in the n after it. -/
theorem noReset_succ : s.noReset (n + 1) ↔ s.envNow.reset = false ∧ ∀ e ∈ s.env.tail.take n, e.reset = false := by
  unfold State.noReset State.envNow
  cases s.env <;> simp

theorem noReset_of_env (he : t.env = s.env.tail) (h : s.noReset (n + 1)) : t.noReset n := by
  rw [State.noReset, he]
  exact (noReset_succ.mp h).2

theorem endCycle_env {n : Option Nat} (h : s.endCycle n = .next t) : t.env = s.env := by
  obtain ⟨r, u, hr, hu, rfl⟩ := endCycle_next h
  obtain ⟨-, -, -, -, -, -, henv, -⟩ := endCycle_flags hr hu
  rw [State.enter_env, State.countDown_env, henv]

/-- A step without Reset takes one entry of the schedule, and is the end of a cycle that starts with the branches of `s`
in flight. -/
theorem step_endCycle (hreset : s.envNow.reset = false) (h : step s = .next t) :
    t.env = s.env.tail
      ∧ ∃ (v : State) (n : Option Nat), v.pendingBranches = s.pendingBranches ∧ v.endCycle n = .next t := by
  rcases step_cases h with ⟨hr, -⟩ | ⟨v, n, hadds, -, hend⟩
  · exact absurd hr (by rw [hreset]; decide)
  · exact ⟨(endCycle_env hend).trans (hadds.same State.env fun _ _ _ => rfl), v, n,
      hadds.same State.pendingBranches fun _ _ _ => rfl, hend⟩

end

/-! ## A branch in flight -/

/-- A branch to `a` is in flight with k cycles left; every branch has a cycle left, and none to elsewhere is due in the
same cycle. -/
structure ArrivesIn (l : List PendingBranch) (k : Nat) (a : Word) : Prop where
  pending : { target := a, left := k } ∈ l
  live : ∀ q ∈ l, 1 ≤ q.left
  alone : ∀ q ∈ l, q.left = k → q.target = a

/-- pc is `a` and nothing is held, or an interrupt has just been taken and `a` is its return pointer (60_exceptions.md
R733). -/
def State.Arrived (t : State) (a : Word) : Prop :=
  t.hold = .count 0
    ∧ (t.pc = a ∨ t.intHold = 7 ∧ (t.irp = a ∧ t.entering ≠ 1 ∨ t.nrp = a ∧ t.entering = 1))

variable {s t : State} {n : Option Nat} {k : Nat} {a : Word}

/-- No two branches due in one cycle: each of them arrives. -/
theorem arrivesIn_of_pairwise {l : List PendingBranch} {p : PendingBranch} (hp : p ∈ l) (hlive : ∀ q ∈ l, 1 ≤ q.left)
    (hdistinct : l.Pairwise fun q r => q.left ≠ r.left) : ArrivesIn l p.left p.target where
  pending := hp
  live := hlive
  alone q hq hleft := by
    have hsame : ∀ ⦃q⦄, q ∈ l → ∀ ⦃r⦄, r ∈ l → q.left = r.left → q.target = r.target :=
      List.Pairwise.forall_of_forall_of_flip (fun _ _ _ => rfl) (hdistinct.imp fun hne he => absurd he hne)
        (hdistinct.imp fun hne he => absurd he.symm hne)
    exact hsame hq hp hleft

theorem endCycle_pendingBranches (h : s.endCycle n = .next t) : t.pendingBranches = s.nextBranches := by
  obtain ⟨u, hu, rfl⟩ := endCycle_landsAs h
  rw [State.enter_pendingBranches, State.countDown_pendingBranches, hu.branches]

/-- A branch in flight after a cycle was so before with one cycle more, or is the packet's. -/
theorem mem_nextBranches {p : PendingBranch} :
    p ∈ s.nextBranches ↔ (0 < p.left ∧ { p with left := p.left + 1 } ∈ s.pendingBranches)
      ∨ p.left = 5 ∧ s.e1.branch = some p.target := by
  obtain ⟨target, left⟩ := p
  rw [nextBranches_eq, List.mem_append, mem_stillPending]
  refine or_congr ⟨?_, fun ⟨hpos, hp⟩ => ⟨_, hp, Nat.succ_lt_succ hpos, rfl⟩⟩ ?_
  · rintro ⟨⟨target, left⟩, hq, hlt, hp⟩
    cases hp
    dsimp only at hlt ⊢
    exact ⟨by omega, by rwa [Nat.sub_add_cancel (by omega)]⟩
  · simp only [List.mem_map, Option.mem_toList, PendingBranch.mk.injEq]
    exact ⟨fun ⟨_, hb, ht, hl⟩ => ⟨hl.symm, ht ▸ hb⟩, fun ⟨hl, hb⟩ => ⟨_, hb, rfl, hl.symm⟩⟩

/-- With fewer than five cycles left after it, a cycle brings a branch nearer; the packet's own has five left. -/
theorem nextBranches_arrivesIn (hpos : 0 < k) (hk : k < 5) (h : ArrivesIn s.pendingBranches (k + 1) a) :
    ArrivesIn s.nextBranches k a where
  pending := mem_nextBranches.mpr (.inl ⟨hpos, h.pending⟩)
  live q hq := by
    rcases mem_nextBranches.mp hq with ⟨hq, -⟩ | ⟨hq, -⟩ <;> omega
  alone q hq hleft := by
    rcases mem_nextBranches.mp hq with ⟨-, hq⟩ | ⟨hq, -⟩
    · exact h.alone { q with left := q.left + 1 } hq (congrArg (· + 1) hleft)
    · omega

/-- In its last cycle the branch is the one that D.3 finds due. -/
theorem find_due_of_arrivesIn {l : List PendingBranch} (h : ArrivesIn l 1 a) :
    ∃ p, l.find? (fun p => due p.left) = some p ∧ p.target = a := by
  cases hfind : l.find? (fun p => due p.left) with
  | none => exact absurd (List.find?_eq_none.mp hfind _ h.pending) (by simp [due])
  | some p =>
    have hdue : p.left ≤ 1 := by simpa [due] using List.find?_some hfind
    have hmem := List.mem_of_find?_eq_some hfind
    exact ⟨p, rfl, h.alone p hmem (Nat.le_antisymm hdue (h.live p hmem))⟩

/-- Interrupt entry saves pc as the return pointer. -/
theorem enter_arrived {d : Option (BitVec 4)} (hpc : s.pc = a) (hhold : s.hold = .count 0) : (s.enter d).Arrived a := by
  cases d with
  | none => exact ⟨hhold, .inl hpc⟩
  | some m =>
    rw [State.enter]
    by_cases hm : m = 1
    · subst hm
      rw [takeInterrupt_nmi]
      exact ⟨rfl, .inr ⟨rfl, .inr ⟨hpc, rfl⟩⟩⟩
    · rw [takeInterrupt_maskable s m hm]
      exact ⟨rfl, .inr ⟨rfl, .inl ⟨hpc, hm⟩⟩⟩

theorem endCycle_arrived (h : s.endCycle n = .next t) (hs : ArrivesIn s.pendingBranches 1 a) : t.Arrived a := by
  obtain ⟨p, hp, rfl⟩ := find_due_of_arrivesIn hs
  obtain ⟨u, hu, rfl⟩ := endCycle_landsAs h
  rcases hu.pc with ⟨q, hq, hpc, hhold⟩ | ⟨hnone, -⟩ | ⟨hnone, -⟩
  · obtain rfl : p = q := Option.some.inj (hp.symm.trans hq)
    exact enter_arrived ((State.countDown_pc ..).trans hpc) ((State.countDown_hold ..).trans hhold)
  · cases hp.symm.trans hnone
  · cases hp.symm.trans hnone

/-- A branch with at most five cycles left arrives when they have passed, whatever the cycles before do. -/
theorem run_arrived (hk : k < 5) (hs : ArrivesIn s.pendingBranches (k + 1) a) (hreset : s.noReset (k + 1))
    (h : run (k + 1) s = .next t) : t.Arrived a := by
  induction k generalizing s with
  | zero =>
    obtain ⟨u, hstep, hrun⟩ := run_succ_next.mp h
    cases hrun
    obtain ⟨-, v, n, hv, hend⟩ := step_endCycle (noReset_succ.mp hreset).1 hstep
    exact endCycle_arrived hend (hv ▸ hs)
  | succ k ih =>
    obtain ⟨u, hstep, hrun⟩ := run_succ_next.mp h
    obtain ⟨henv, v, n, hv, hend⟩ := step_endCycle (noReset_succ.mp hreset).1 hstep
    have hu : ArrivesIn u.pendingBranches (k + 1) a := by
      rw [endCycle_pendingBranches hend]
      exact nextBranches_arrivesIn k.succ_pos (by omega) (hv ▸ hs)
    exact ih (by omega) hu (noReset_of_env henv hreset) hrun

/-- Settles O30: a branch in flight arrives by induction on its cycles left; the packet's own joins at the end of the
cycle. -/
theorem branchLandsAfterFiveDelaySlots : Obligations.BranchLandsAfterFiveDelaySlots := by
  refine ⟨fun s t p hp hlive hdistinct hle hreset hrun => ?_, fun s t n a h ha => ?_, fun s t n h hseen => ?_⟩
  · have harrives := arrivesIn_of_pairwise hp hlive hdistinct
    obtain ⟨k, hk⟩ := Nat.exists_eq_add_of_le' (hlive p hp)
    rw [hk] at harrives hreset hrun
    exact run_arrived (by omega) harrives hreset hrun
  · rw [endCycle_pendingBranches h]
    exact mem_nextBranches.mpr (.inr ⟨rfl, ha⟩)
  · obtain ⟨u, -, rfl⟩ := endCycle_landsAs h
    rw [State.enter_branchShadow, State.countDown_branchShadow, State.nextShadow, if_pos hseen]

end Sys2Proof.Machine
end

section
/-! SUPPORT. NOP, IDLE and the constant moves (45_move_control.md R635 to R655, 46_pseudo_ops.md R672). -/

namespace Sys2Proof.Machine

/-! ## NOP and IDLE -/

/-- The hold after an instruction has asked for one is the longer of the two. -/
theorem putHold_eq {s : State} {h g : Hold} (hmax : s.e1.hold.max h = g) :
    s.putHold h = { s with e1 := { s.e1 with hold := g } } := by
  rw [State.putHold, hmax]

theorem Hold.count_max (m n : Nat) : (Hold.count m).max (.count n) = .count (Nat.max m n) := rfl

theorem Hold.idle_max (h : Hold) : Hold.idle.max h = .idle := by cases h <;> rfl

theorem Hold.max_idle (h : Hold) : h.max .idle = .idle := by cases h <;> rfl

/-- Beside an IDLE a NOP asks for nothing more (log 35). -/
theorem putHold_beside_idle {s : State} (hs : s.e1.hold = .idle) (h : Hold) : s.putHold h = s :=
  putHold_eq (g := s.e1.hold) (by rw [hs, Hold.idle_max])

/-- Settles O50: each of the three asks for its hold, and the longest counts. -/
theorem nopAndIdleAskForAHold : Obligations.NopAndIdleAskForAHold := by
  intro s
  refine ⟨fun src m hm => ?_, fun m hm => ?_, fun src hs => ⟨?_, ?_⟩, ?_⟩
  · exact congrArg _ (putHold_eq (by rw [hm]; exact Hold.count_max ..))
  · exact congrArg _ (putHold_eq (by rw [hm]; exact Hold.count_max ..))
  · exact congrArg _ (putHold_beside_idle hs _)
  · exact congrArg _ (putHold_beside_idle hs _)
  · exact congrArg _ (putHold_eq (Hold.max_idle _))

/-! ## Bits under a mask -/

/-- The bits of a word under a mask whose bits are those that satisfy `p`. -/
theorem getLsbD_and_mask {v m : Word} {p : Nat → Bool} {k : Nat} (hm : ∀ j : Fin 32, m.getLsbD j = p j) (hk : k < 32) :
    (v &&& m).getLsbD k = (v.getLsbD k && p k) := by
  rw [BitVec.getLsbD_and, hm ⟨k, hk⟩]

/-! ## MVK, MVKL, MVKH, MVKLH -/

/-- A constant above the lower half of a word. -/
theorem cst_or_lowerHalf (cst : BitVec 16) (w : Word) :
    (cst.setWidth 32 <<< 16) ||| (w &&& 0x0000FFFF) = .ofInt 32 (halves cst.toNat w.toNat) := by
  rw [← append_ofNat_eq_halves, BitVec.ofNat_toNat, BitVec.setWidth_eq, BitVec.ofNat_toNat]
  apply BitVec.eq_of_getLsbD_eq
  intro k hk
  rw [BitVec.getLsbD_or, getLsbD_and_mask (p := fun j => decide (j < 16)) (by decide) hk, BitVec.getLsbD_append]
  by_cases hlow : k < 16
  · simp [hlow]
  · simp [hlow, hk]

/-- Settles O47: each form writes a word that stands for the integer of the statement. -/
theorem constantMoves : Obligations.ConstantMoves := fun _ _ =>
  ⟨onCond_putReg (signExtend_eq_ofInt _), onCond_putReg (signExtend_eq_ofInt _), onCond_putReg (cst_or_lowerHalf ..),
    onCond_putReg (cst_or_lowerHalf ..)⟩

end Sys2Proof.Machine
end

section
/-! SUPPORT. MVC from a control register (45_move_control.md R630, 10_state.md R59, R60, R73). -/

namespace Sys2Proof.Machine

variable {s : State} {o : Ops3} {n : BitVec 5} {v : Word} {e : Stop}

/-! ## The meaning, with the value read given -/

theorem exec_mvcRead_of_ok (hn : o.src2 = n) (h : s.readCtrl n = .ok v) :
    exec (.mvcRead o) s = s.ifHolds o.cond (s.putReg o.side o.dst v) := by
  change s.onCond o.cond (outcome (s.readCtrl o.src2 >>= fun v => .ok (s.putReg o.side o.dst v))) = _
  rw [hn, h]
  exact onCond_eq_ifHolds ..

theorem exec_mvcRead_of_error (hc : s.holds o.cond = true) (h : s.readCtrl o.src2 = .error e) :
    exec (.mvcRead o) s = outcome (.error e) :=
  (onCond_holds _ hc).trans (congrArg outcome (bind_error h))

/-- ICR and the addresses that Table 3-16 does not list cannot be read (log 23). -/
theorem readCtrl_unreadable (h : n = 3 ∨ 8 ≤ n.toNat ∧ n.toNat ≠ 16) :
    s.readCtrl n = .error (.fault .badControlRegister) := by
  have hn : n.toNat = 3 ∨ 8 ≤ n.toNat ∧ n.toNat ≠ 16 := h.imp_left (congrArg BitVec.toNat)
  unfold State.readCtrl
  split
  case h_9 => rfl
  all_goals omega

/-! ## ISTP -/

/-- The interrupts that can be pending and enabled (60_exceptions.md R702). -/
abbrev interruptNumbers : List Nat := [1, 4, 5, 6, 7, 8, 9, 10, 11, 12, 13, 14, 15]

theorem mem_interruptNumbers {k : Nat} : k ∈ interruptNumbers ↔ k < 16 ∧ (k = 1 ∨ 4 ≤ k) := by
  simp
  omega

/-- `m` is the interrupt that ISTP.HPEINT names: pending and enabled, and none of higher priority is. -/
def State.IsHpeint (s : State) (m : Nat) : Prop :=
  (∀ k ∈ interruptNumbers, k < m → (s.ifr.getLsbD k && s.ier.getLsbD k) = false)
    ∧ m ∈ interruptNumbers ∧ (s.ifr.getLsbD m && s.ier.getLsbD m) = true

theorem lowestSet_candidates_iff {m : BitVec 4} :
    lowestSet (candidates s.ifr s.ier) = some m ↔ s.IsHpeint m.toNat := by
  have hbit {k : Nat} (hk : k ≤ m.toNat) :
      (candidates s.ifr s.ier).getLsbD k = (decide (k ∈ interruptNumbers) && (s.ifr.getLsbD k && s.ier.getLsbD k)) := by
    have hk : k < 16 := Nat.lt_of_le_of_lt hk m.isLt
    rw [getLsbD_candidates _ _ _ hk]
    simp only [mem_interruptNumbers, hk, true_and]
  rw [lowestSet_eq_some, hbit (Nat.le_refl _), Bool.and_eq_true, decide_eq_true_eq, and_comm]
  refine and_congr_left fun _ => ⟨fun h k hk hlt => ?_, fun h k hlt => ?_⟩
  · have := h k hlt
    rwa [hbit (Nat.le_of_lt hlt), decide_eq_true hk, Bool.true_and] at this
  · rw [hbit (Nat.le_of_lt hlt)]
    by_cases hk : k ∈ interruptNumbers
    · rw [h k hk hlt, Bool.and_false]
    · rw [decide_eq_false hk, Bool.false_and]

theorem toNat_hpeint {m : Nat} (h : s.IsHpeint m) : s.hpeint.toNat = m := by
  have hm : (BitVec.ofNat 4 m).toNat = m := Nat.mod_eq_of_lt (mem_interruptNumbers.mp h.2.1).1
  rw [State.hpeint, lowestSet_candidates_iff.mpr (hm.symm ▸ h), Option.getD_some, hm]

theorem hpeint_eq_zero (h : ∀ m, ¬ s.IsHpeint m) : s.hpeint = 0 := by
  unfold State.hpeint
  cases hlow : lowestSet (candidates s.ifr s.ier) with
  | none => rfl
  | some m => exact absurd (lowestSet_candidates_iff.mp hlow) (h _)

/-- ISTP: ISTB above the number of an interrupt (10_state.md R73). -/
theorem entryAddress_eq_ofNat (s : State) (m : BitVec 4) :
    s.entryAddress m = .ofNat 32 (s.istb.toNat * 1024 + m.toNat * 32) := by
  have hoffset : (0#1 ++ m ++ 0#5).toNat = m.toNat * 32 := by
    rw [BitVec.toNat_append, BitVec.toNat_append, Nat.shiftLeft_eq]
    simp
  have hlt : m.toNat * 32 < 2 ^ 10 := by have := m.isLt; omega
  apply BitVec.eq_of_toNat_eq
  rw [State.entryAddress, BitVec.toNat_append, hoffset, ← Nat.shiftLeft_add_eq_or_of_lt hlt, Nat.shiftLeft_eq,
    BitVec.toNat_ofNat, Nat.mod_eq_of_lt (by have := s.istb.isLt; omega)]

/-! ## AMR, IFR and IER -/

theorem getLsbD_amr_read {k : Nat} (hk : k < 32) : (v &&& 0x03FFFFFF).getLsbD k = (v.getLsbD k && decide (k < 26)) :=
  getLsbD_and_mask (p := fun j => decide (j < 26)) (by decide) hk

theorem getLsbD_ifr_read {k : Nat} (hk : k < 32) :
    (v &&& 0x0000FFF3).getLsbD k = (v.getLsbD k && decide (k < 16) && !decide (k = 2) && !decide (k = 3)) := by
  rw [getLsbD_and_mask (p := fun j => decide (j < 16) && !decide (j = 2) && !decide (j = 3)) (by decide) hk]
  simp only [Bool.and_assoc]

theorem getLsbD_ier_read {k : Nat} (hk : k < 32) :
    ((v &&& 0x0000FFF2) ||| 1).getLsbD k
      = (decide (k = 0) || (v.getLsbD k && decide (k < 16) && !decide (k = 2) && !decide (k = 3))) := by
  have hone : ∀ j : Fin 32, (1 : Word).getLsbD j = decide (j.val = 0) := by decide
  rw [BitVec.getLsbD_or, hone ⟨k, hk⟩,
    getLsbD_and_mask (p := fun j => decide (1 ≤ j ∧ j < 16) && !decide (j = 2) && !decide (j = 3)) (by decide) hk]
  by_cases h : k = 0
  · simp [h]
  · simp [h, Nat.one_le_iff_ne_zero, Bool.and_assoc]

/-- Settles O48: what each address reads as is what the instruction writes; the others stop it. -/
theorem readingControlRegisters : Obligations.ReadingControlRegisters := by
  intro s o
  refine ⟨fun h => ⟨_, exec_mvcRead_of_ok h rfl, fun k => getLsbD_amr_read⟩, fun h => exec_mvcRead_of_ok h rfl,
    fun h => ⟨_, exec_mvcRead_of_ok h rfl, fun k => getLsbD_ifr_read⟩,
    fun h => ⟨_, exec_mvcRead_of_ok h rfl, fun k => getLsbD_ier_read⟩, fun h m hm => ?_, fun h hnone => ?_,
    fun h => exec_mvcRead_of_ok h rfl, fun h => exec_mvcRead_of_ok h rfl, fun h => ?_,
    fun h hc => exec_mvcRead_of_error hc (readCtrl_unreadable h)⟩
  · rw [← toNat_hpeint hm, ← entryAddress_eq_ofNat]
    exact exec_mvcRead_of_ok h rfl
  · have hbase : BitVec.ofNat 32 (s.istb.toNat * 1024) = s.entryAddress s.hpeint := by
      simp [hpeint_eq_zero hnone, entryAddress_eq_ofNat]
    rw [hbase]
    exact exec_mvcRead_of_ok h rfl
  · rw [← BitVec.ofInt_natCast, ← pce1_eq_ofInt]
    exact exec_mvcRead_of_ok h rfl

end Sys2Proof.Machine
end

section
/-! SUPPORT. MVC to a control register: the write asked for (45_move_control.md R631, 10_state.md R64, R65,
60_exceptions.md R762). -/

namespace Sys2Proof.Machine

variable {s t : State} {o : Ops3} {n : BitVec 5} {v : Word} {e : Stop}

/-! ## The meaning, with the write asked for given -/

theorem exec_mvcWrite_of_ok (hn : o.dst = n) (h : s.writeCtrl n (xsrc2 s o) = .ok t) :
    exec (.mvcWrite o) s = s.ifHolds o.cond t := by
  change s.onCond o.cond (outcome (s.writeCtrl o.dst (xsrc2 s o))) = _
  rw [hn, h]
  exact onCond_eq_ifHolds ..

theorem exec_mvcWrite_of_error (hc : s.holds o.cond = true) (hn : o.dst = n)
    (h : s.writeCtrl n (xsrc2 s o) = .error e) : exec (.mvcWrite o) s = outcome (.error e) :=
  (onCond_holds _ hc).trans (congrArg outcome (hn ▸ h))

/-- PCE1 and the addresses that Table 3-16 does not list cannot be written (log 23). -/
theorem writeCtrl_unwritable (h : 8 ≤ n.toNat) : s.writeCtrl n v = .error (.fault .badControlRegister) := by
  unfold State.writeCtrl
  split
  case h_9 => rfl
  all_goals omega

/-! ## CSR -/

/-- A PWRD value is reserved unless it is one of the five of 10_state.md R64. -/
theorem powerOf_eq_none_iff {p : BitVec 6} :
    powerOf p = none ↔ ¬ (p.toNat = 0 ∨ p.toNat = 0x09 ∨ p.toNat = 0x11 ∨ p.toNat = 0x1A ∨ p.toNat = 0x1C) := by
  unfold powerOf
  split
  case h_6 => exact iff_of_true rfl (by rintro (h | h | h | h | h) <;> contradiction)
  all_goals simp [*]

theorem writeCsr_reserved (h : powerOf (v.extractLsb' 10 6) = none) :
    s.writeCsr v = .error (.fault .reservedPowerDown) := by
  rw [State.writeCsr, h]

theorem writeCsr_clear (h : powerOf (v.extractLsb' 10 6) ≠ none) (hsat : v.getLsbD 9 = false) :
    s.writeCsr v = .ok (s.putCtrl (.csr v false)) := by
  obtain ⟨p, hp⟩ := Option.ne_none_iff_exists'.mp h
  rw [State.writeCsr, hp, hsat]
  rfl

/-- A 1 for SAT leaves a free one of the old SAT and 0 (log 15). -/
theorem writeCsr_one (h : powerOf (v.extractLsb' 10 6) ≠ none) (hsat : v.getLsbD 9 = true) :
    s.writeCsr v = .ok (s.drawn.putCtrl (.csr v (s.satBit && s.freeBit))) := by
  obtain ⟨p, hp⟩ := Option.ne_none_iff_exists'.mp h
  rw [State.writeCsr, hp, hsat]
  rfl

/-- Settles O49: the write that each address asks for, or the stop. -/
theorem writingControlRegisters : Obligations.WritingControlRegisters := by
  intro s o v does pwrd legal
  have hlegal : powerOf (v.extractLsb' 10 6) = none ↔ ¬ legal := by
    rw [powerOf_eq_none_iff, ← div_mod_eq_extract]
  refine ⟨fun hd => exec_mvcWrite_of_ok hd rfl, fun hd hl hsat => ?_, fun hd hl hsat => ?_, fun hd hl hc => ?_,
    fun hd => exec_mvcWrite_of_ok hd rfl, fun hd => exec_mvcWrite_of_ok hd rfl, fun hd => exec_mvcWrite_of_ok hd rfl,
    fun hd => exec_mvcWrite_of_ok hd rfl, fun hd => exec_mvcWrite_of_ok hd rfl, fun hd => exec_mvcWrite_of_ok hd rfl,
    fun hd hc => exec_mvcWrite_of_error hc rfl (writeCtrl_unwritable hd)⟩
  · exact exec_mvcWrite_of_ok hd (writeCsr_clear (mt hlegal.mp (not_not_intro hl)) hsat)
  · exact ⟨s.satBit && s.freeBit, fun h => (Bool.and_eq_true_iff.mp h).1,
      exec_mvcWrite_of_ok hd (writeCsr_one (mt hlegal.mp (not_not_intro hl)) hsat)⟩
  · exact exec_mvcWrite_of_error hc hd (writeCsr_reserved (hlegal.mpr hl))

end Sys2Proof.Machine
end

section
/-! SUPPORT. A control-register write landing at the end of its cycle (10_state.md R62, R64, R70, R72, R73, 44_branch.md
R615, R620). -/

namespace Sys2Proof.Machine

variable {s t : State} {n : Option Nat}

/-! ## The end of a cycle with a single write -/

/-- Without an interrupt a cycle ends where the count-down leaves it. -/
theorem endCycle_undecided (h : s.endCycle n = .next t) (hd : s.decision = none) :
    ∃ u, s.LandsAs n u ∧ t = u.countDown s.nextShadow s.wakes := by
  obtain ⟨u, hu, rfl⟩ := endCycle_landsAs h
  exact ⟨u, hu, by rw [hd]; rfl⟩

theorem controlled_single {c : CtrlWrite} (h : s.e1.ctrl = [c]) : s.controlled = s.updateFlags.applyCtrl c := by
  rw [State.controlled, h]
  rfl

/-- Only a power-down can end. -/
theorem wakes_of_no_powerDown (h : s.power = .none) : s.wakes = false := by
  rw [State.wakes, h]

/-! ## The registers written bit by bit -/

/-- CSR after an MVC: the writable bits, SAT as asked, the rest kept. -/
theorem getLsbD_csr_written {c v : Word} {sat : Bool} {k : Nat} (hk : k < 32) :
    (setBit ((c &&& 0xFFFF0100) ||| (v &&& 0x0000FCFF)) 9 sat).getLsbD k =
      if k < 8 ∨ (10 ≤ k ∧ k < 16) then v.getLsbD k else if k = 9 then sat else c.getLsbD k := by
  rw [getLsbD_setBit _ _ _ _ (by decide), BitVec.getLsbD_or,
    getLsbD_and_mask (p := fun j => decide (j = 8 ∨ 16 ≤ j)) (by decide) hk,
    getLsbD_and_mask (p := fun j => decide (j < 8 ∨ (10 ≤ j ∧ j < 16))) (by decide) hk]
  by_cases hsat : k = 9
  · simp [hsat]
  · by_cases hw : k < 8 ∨ (10 ≤ k ∧ k < 16)
    · simp [hsat, hw, show ¬ (k = 8 ∨ 16 ≤ k) by omega]
    · simp [hsat, hw, show k = 8 ∨ 16 ≤ k by omega]

/-- IER after an MVC: the enables of INT4 to INT15, NMIE only ever set (10_state.md R72). -/
theorem getLsbD_ier_written {c v : Word} {k : Nat} (hk : k < 32) :
    ((c &&& 0xFFFF000F) ||| (v &&& 0x0000FFF2)).getLsbD k =
      if 4 ≤ k ∧ k < 16 then v.getLsbD k else if k = 1 then c.getLsbD 1 || v.getLsbD 1 else c.getLsbD k := by
  rw [BitVec.getLsbD_or, getLsbD_and_mask (p := fun j => decide (j < 4 ∨ 16 ≤ j)) (by decide) hk,
    getLsbD_and_mask (p := fun j => decide (j = 1 ∨ (4 ≤ j ∧ j < 16))) (by decide) hk]
  by_cases hnmie : k = 1
  · simp [hnmie]
  · by_cases hw : 4 ≤ k ∧ k < 16
    · simp [hnmie, hw, show ¬ (k < 4 ∨ 16 ≤ k) by omega]
    · simp [hnmie, hw, show k < 4 ∨ 16 ≤ k by omega]

/-- The interrupts that a write of ISR or ICR names (10_state.md R70). -/
theorem getLsbD_command (v : Word) {m : Nat} (hm : m < 16) :
    (v.setWidth 16 &&& maskableMask).getLsbD m = (v.getLsbD m && decide (4 ≤ m)) := by
  have hmask : ∀ j : Fin 16, maskableMask.getLsbD j = decide (4 ≤ j.val) := by decide
  rw [BitVec.getLsbD_and, hmask ⟨m, hm⟩, BitVec.getLsbD_setWidth, decide_eq_true hm, Bool.true_and]

theorem toNat_amr_written (v : Word) : (v &&& 0x03FFFFFF).toNat = v.toNat % 2 ^ 26 := by
  rw [BitVec.toNat_and]
  exact Nat.and_two_pow_sub_one_eq_mod v.toNat 26

theorem toNat_istb_written (v : Word) : (v.extractLsb' 10 22).toNat = v.toNat / 1024 := by
  rw [← div_mod_eq_extract v 10 22]
  have := v.isLt
  omega

/-! ## CSR -/

/-- GIE and PGIE after a cycle without an interrupt are as the packet's write leaves them. -/
theorem endCycle_csr_low {k : Nat} (h : s.endCycle n = .next t) (hd : s.decision = none) (hk : k < 9) :
    t.csr.getLsbD k = s.controlled.csr.getLsbD k := by
  obtain ⟨u, hu, rfl⟩ := endCycle_undecided h hd
  rw [countDown_csr_bit _ _ (.inl (by omega)), hu.csr, csrLanded_bit (by omega)]

/-- A write of CSR in a cycle with no power-down to end and no SAT falling due. -/
theorem endCycle_csr_write {v : Word} {sat : Bool} (h : s.endCycle n = .next t) (hd : s.decision = none)
    (hc : s.e1.ctrl = [.csr v sat]) (hp : s.power = .none) (hsat : ∀ k ∈ s.pendingSat, 1 < k) :
    t.csr = setBit ((s.csr &&& 0xFFFF0100) ||| (v &&& 0x0000FCFF)) 9 sat
      ∧ t.power = (powerOf (v.extractLsb' 10 6)).getD .none := by
  obtain ⟨u, hu, rfl⟩ := endCycle_undecided h hd
  rw [countDown_csr, countDown_power, wakes_of_no_powerDown hp, hu.csr, hu.power, csrLanded_of_not_due hsat,
    controlled_single hc]
  exact ⟨rfl, rfl⟩

/-- Settles O23, each write through the end of the cycle that leaves it as it landed. -/
theorem controlWritesTakeEffect : Obligations.ControlWritesTakeEffect := by
  intro s t n v sat h hd
  obtain ⟨u, hu, ht⟩ := endCycle_undecided h hd
  have hamr : t.amr = s.controlled.amr := by rw [ht, State.countDown_amr, hu.amr]
  have hcommand : t.pendingIfr = s.controlled.pendingIfr := by rw [ht, State.countDown_pendingIfr, hu.command]
  have hier : t.ier = s.controlled.ier := by rw [ht, State.countDown_ier, hu.ier]
  have histb : t.istb = s.controlled.istb := by rw [ht, State.countDown_istb, hu.istb]
  have hirp : t.irp = s.controlled.irp := by rw [ht, State.countDown_irp, hu.irp]
  have hnrp : t.nrp = s.controlled.nrp := by rw [ht, State.countDown_nrp, hu.nrp]
  have hgie : t.gie = s.controlled.gie := endCycle_csr_low h hd (by decide)
  have hpgie : t.pgie = s.controlled.pgie := endCycle_csr_low h hd (by decide)
  refine ⟨fun hc => ?_, fun hc hp hsat => ?_, fun hc => ?_, fun hc => ?_, fun hc k hk => ?_, fun hc => ?_, fun hc => ?_,
    fun hc => ?_, fun hc => ?_, fun hc => ?_⟩
  · rw [hamr, controlled_single hc]
    exact toNat_amr_written v
  · obtain ⟨hcsr, hpower⟩ := endCycle_csr_write h hd hc hp hsat
    have hmode {w : Nat} {p : Power} (hw : v.toNat / 2 ^ 10 % 2 ^ 6 = w)
        (hp : (powerOf (.ofNat 6 w)).getD .none = p) : t.power = p := by
      rw [hpower, ← hp, ← hw, div_mod_eq_extract, BitVec.ofNat_toNat, BitVec.setWidth_eq]
    refine ⟨fun k hk => ?_, (hmode · rfl), (hmode · rfl), (hmode · rfl), (hmode · rfl), (hmode · rfl)⟩
    rw [hcsr, getLsbD_csr_written hk]
  · rw [hcommand, controlled_single hc]
    exact ⟨rfl, fun m hm => (congrArg (BitVec.getLsbD · m) BitVec.zero_or).trans (getLsbD_command v hm)⟩
  · rw [hcommand, controlled_single hc]
    exact ⟨rfl, fun m hm => (congrArg (BitVec.getLsbD · m) BitVec.zero_or).trans (getLsbD_command v hm)⟩
  · rw [hier, controlled_single hc]
    exact getLsbD_ier_written hk
  · rw [histb, controlled_single hc]
    exact toNat_istb_written v
  · rw [hirp, controlled_single hc]
    rfl
  · rw [hnrp, controlled_single hc]
    rfl
  · rw [hgie, hpgie, controlled_single hc]
    exact ⟨setBit_same (by decide), setBit_other (by decide) (by decide)⟩
  · rw [State.nmie, hier, hgie, hpgie, controlled_single hc]
    exact ⟨setBit_same (by decide), rfl, rfl⟩

end Sys2Proof.Machine
end

section
/-! SUPPORT. A cycle in which no packet enters E1: interrupt entry, power-down, the held cycles of NOP and IDLE
(45_move_control.md R652, R655, 60_exceptions.md R737, R761, 70_reset_and_hazards.md R803). -/

namespace Sys2Proof.Machine

variable {s t : State} {n : Option Nat}

/-! ## Registers and results in flight at the end of a cycle -/

/-- A register after a cycle: the write that lands on it, else its value before (70_reset_and_hazards.md R804 D.1). -/
theorem endCycle_file (h : s.endCycle n = .next t) (d : Side) (r : BitVec 4) :
    (t.file d).read r
      = ((s.landing.find? (fun w => w.target == (d, r))).map RegWrite.value).getD ((s.file d).read r) := by
  obtain ⟨q, u, hr, hu, rfl⟩ := endCycle_next h
  obtain ⟨honce, -⟩ := retire_ok hr
  obtain ⟨ha, hb, -⟩ := endCycle_inFlight hr hu
  rw [← file_writeRegs _ _ _ _ honce]
  cases d with
  | a => rw [State.file, State.enter_a, State.countDown_a, ha]; rfl
  | b => rw [State.file, State.enter_b, State.countDown_b, hb]; rfl

/-- A register that nothing lands on keeps its value. -/
theorem endCycle_file_kept {d : Side} {r : BitVec 4} (h : s.endCycle n = .next t)
    (hland : ∀ w ∈ s.landing, ¬ (w.side = d ∧ w.reg = r)) : (t.file d).read r = (s.file d).read r := by
  have hnone : s.landing.find? (fun w => w.target == (d, r)) = none :=
    List.find?_eq_none.mpr fun w hw => by simpa [RegWrite.target] using hland w hw
  rw [endCycle_file h, hnone]
  rfl

theorem mem_landing {w : RegWrite} :
    w ∈ s.landing ↔ (∃ p ∈ s.pendingRegs, p.left ≤ 1 ∧ p.write = w) ∨ w ∈ s.e1.regs := by
  simp [State.landing, due, and_assoc]

theorem mem_stillLate {l : List LateWrite} {q : LateWrite} :
    q ∈ stillLate l ↔ ∃ p ∈ l, 1 < p.left ∧ q = { p with left := p.left - 1 } := by
  simp only [stillLate, List.mem_map, List.mem_filter, due, Bool.not_eq_true', decide_eq_false_iff_not, Nat.not_le,
    and_assoc, eq_comm (b := q)]

/-- The results in flight after a cycle: those of before, one cycle nearer, and the packet's own. -/
theorem endCycle_pendingRegs (h : s.endCycle n = .next t) : t.pendingRegs = stillLate s.pendingRegs ++ s.e1.late := by
  obtain ⟨u, hu, rfl⟩ := endCycle_landsAs h
  rw [State.enter_pendingRegs, State.countDown_pendingRegs, hu.regs]

/-! ## A held cycle -/

theorem held_iff : s.held = true ↔ s.intHold ≠ 0 ∨ s.power ≠ .none ∨ s.hold ≠ .count 0 := by
  simp [State.held, or_assoc]

/-- A held step is the end of a cycle with no packet. -/
theorem step_held_next (hreset : s.envNow.reset = false) (hheld : s.held = true) (h : step s = .next t) :
    s.takeEnv.endCycle none = .next t := by
  rcases step_next h with ⟨hr, -⟩ | ⟨-, -, hend⟩ | ⟨-, hissues, -⟩
  · exact absurd hr (by rw [hreset]; decide)
  · exact hend
  · exact absurd hheld (by rw [show s.held = false from hissues]; decide)

/-- AMR and ISTB at the end of a cycle that no control-register write is asked for in. -/
theorem endCycle_amr_istb (h : s.endCycle n = .next t) (hc : s.e1.ctrl = []) : t.amr = s.amr ∧ t.istb = s.istb := by
  obtain ⟨hamr, histb, -⟩ := controlRegistersAreKept s t n h
  exact ⟨hamr (by simp [hc]), histb (by simp [hc])⟩

/-- Settles O18: a held cycle is the end of a cycle without effects, part by part. -/
theorem heldCycleIssuesNothing : Obligations.HeldCycleIssuesNothing := by
  intro s t he hreset hheld hstep
  have h := step_held_next hreset (held_iff.mpr hheld) hstep
  have he : s.takeEnv.e1 = {} := he
  obtain ⟨-, hprog⟩ := endCycle_launch h
  obtain ⟨hamr, histb⟩ := endCycle_amr_istb h (by rw [he])
  refine ⟨fun a => ?_, fun a => by rw [hprog, State.takeEnv_prog], fun d r hfree => ?_, fun q hq => ?_, fun q hq => ?_,
    hamr, histb⟩
  · rw [endCycle_mem h, he]
    rfl
  · change _ = (s.takeEnv.file d).read r
    refine endCycle_file_kept h fun w hw => ?_
    rcases mem_landing.mp hw with ⟨p, hp, hdue, rfl⟩ | hw
    · exact hfree p hp hdue
    · rw [he] at hw
      cases hw
  · rw [endCycle_pendingRegs h, he, List.append_nil] at hq
    obtain ⟨p, hp, hlt, rfl⟩ := mem_stillLate.mp hq
    exact ⟨p, hp, rfl, Nat.sub_add_cancel (Nat.le_of_lt hlt)⟩
  · rw [endCycle_pendingBranches h] at hq
    rcases mem_nextBranches.mp hq with ⟨-, hp⟩ | ⟨-, hbranch⟩
    · exact ⟨_, hp, rfl, rfl⟩
    · rw [he] at hbranch
      cases hbranch

end Sys2Proof.Machine
end

section
/-! SUPPORT. The pseudo-operations and the machine instructions they stand for (46_pseudo_ops.md R670 to R675). -/

namespace Sys2Proof.Machine

/-! ## Negation and complement as integers cut to a width -/

section
variable {n : Nat}

/-- The negation wraps: the lowest value is its own (R673). -/
theorem neg_eq_ofInt (x : BitVec n) : -x = .ofInt n (-x.toInt) := by
  rw [BitVec.ofInt_neg, BitVec.ofInt_toInt]

theorem not_eq_ofInt (x : Word) : ~~~x = .ofInt 32 (2 ^ 32 - 1 - x.toNat) := by
  rw [← BitVec.allOnes_sub_eq_not]
  exact sub_eq_ofInt rfl (eq_ofInt_toNat x)

/-! ## The constants 0 and 31 as src1 -/

theorem scst5_zero : scst5 n 0 = 0 := BitVec.ofInt_natCast n 0

/-- The field 31 is the signed constant -1. -/
theorem scst5_thirtyOne : scst5 32 31 = BitVec.allOnes 32 := rfl

theorem scst5_zero_add (x : BitVec n) : scst5 n 0 + x = x := by rw [scst5_zero, BitVec.ofNat_eq_ofNat, BitVec.zero_add]

theorem scst5_zero_sub (x : BitVec n) : scst5 n 0 - x = -x := by rw [scst5_zero, BitVec.ofNat_eq_ofNat, BitVec.zero_sub]

theorem add_ucst5_zero (x : Word) : x + ucst5 32 0 = x := BitVec.add_zero x

theorem scst5_thirtyOne_xor (x : Word) : scst5 32 31 ^^^ x = ~~~x := by
  rw [scst5_thirtyOne, BitVec.allOnes_xor]

end

/-! ## Expansion -/

/-- A pseudo-operation and the instruction it stands for write one register or pair under one condition, so they agree
when their values do; the other instructions stand for themselves. -/
theorem exec_expand (i : Instr) (s : State) : exec i.expand s = exec i s := by
  cases i with
  | mvL o => exact congrArg (set2 s o) (scst5_zero_add _)
  | mvLLong o => exact congrArg (set2Long s o) (scst5_zero_add _)
  | mvS o => exact congrArg (set2 s o) (scst5_zero_add _)
  | mvD o => exact congrArg (setD s (o.withSrc1 0)) (add_ucst5_zero _)
  | negL o => exact congrArg (set2 s o) (scst5_zero_sub _)
  | negLLong o => exact congrArg (set2Long s o) (scst5_zero_sub _)
  | negS o => exact congrArg (set2 s o) (scst5_zero_sub _)
  | notL o => exact congrArg (set2 s o) (scst5_thirtyOne_xor _)
  | notS o => exact congrArg (set2 s o) (scst5_thirtyOne_xor _)
  | zeroL o => exact congrArg (set32 s o.all3) (BitVec.sub_self _)
  | zeroLLong o => exact congrArg (set40 s o.all3) (BitVec.sub_self _)
  | zeroS o => exact congrArg (set32 s o.all3) (BitVec.sub_self _)
  | zeroD o => exact congrArg (setD s o.allD) (BitVec.sub_self _)
  | _ => rfl

/-- Settles O57: each form writes a word or pair that stands for the integer of the statement. -/
theorem pseudoOperations : Obligations.PseudoOperations := by
  intro s
  refine ⟨fun _ => ?moveNegateComplement, fun _ => onCond_putReg (eq_ofInt_toInt _), fun _ => ?zero,
    fun i => (exec_expand i s).symm⟩
  case moveNegateComplement =>
    exact ⟨
      -- MV
      onCond_putReg (eq_ofInt_toInt _), onCond_putReg (eq_ofInt_toInt _), onCond_putLong (eq_ofInt_toInt _),
      -- NEG
      onCond_putReg (neg_eq_ofInt _), onCond_putReg (neg_eq_ofInt _), onCond_putLong (neg_eq_ofInt _),
      -- NOT
      onCond_putReg (not_eq_ofInt _), onCond_putReg (not_eq_ofInt _)⟩
  case zero => exact ⟨onCond_putReg rfl, onCond_putLong rfl, onCond_putReg rfl, onCond_putReg rfl⟩

end Sys2Proof.Machine
end

section
/-! SUPPORT. The interrupt flags as a cycle leaves them, the outputs of an entry, and the seven cycles it lasts
(60_exceptions.md R712, R735, R736, R737). -/

namespace Sys2Proof.Machine

variable {s t : State} {n : Option Nat}

/-! ## The flags -/

/-- The hardware clears one flag, in the second cycle of its entry (60_exceptions.md R735). -/
theorem getLsbD_hardwareClear {m : Nat} (hm : m < 16) :
    s.hardwareClear.getLsbD m = (decide (s.intHold = 6) && decide (s.entering.toNat = m)) := by
  unfold State.hardwareClear
  split
  · next h => simp [h, hm, eq_comm]
  · next h => simp [h]

/-- A flag after a cycle, by priority: an arrival, ISR, a clear, as it was (60_exceptions.md R712). -/
theorem getLsbD_nextIfr {m : Nat} (hm : m < 16) :
    s.nextIfr.getLsbD m =
      if s.intLatch.getLsbD m then true
      else if s.pendingIfr.set.getLsbD m then true
      else if s.pendingIfr.clear.getLsbD m || s.hardwareClear.getLsbD m then false
      else s.ifr.getLsbD m := by
  have hm' : m < 32 := by omega
  simp only [State.nextIfr, BitVec.getLsbD_or, BitVec.getLsbD_and, BitVec.getLsbD_not, BitVec.getLsbD_setWidth, hm',
    decide_true, Bool.true_and]
  split_ifs with hlatch hset hclear
  · rw [hlatch, Bool.or_true, Bool.or_true]
  · rw [hset, Bool.true_or, Bool.or_true]
  · simp [hlatch, hset, hclear]
  · simp [hlatch, hset, hclear]

theorem endCycle_ifr (h : s.endCycle n = .next t) : t.ifr = s.nextIfr ∧ t.intLatch = 0 := by
  obtain ⟨u, hu, rfl⟩ := endCycle_landsAs h
  rw [State.enter_ifr, State.countDown_ifr, hu.ifr, State.enter_intLatch, State.countDown_intLatch, hu.latch]
  exact ⟨rfl, rfl⟩

/-- Settles O26: IFR after a cycle is `nextIfr`, read bit by bit; no command in flight names NMI. -/
theorem interruptFlagUpdate : Obligations.InterruptFlagUpdate := by
  intro s t n m h entered
  obtain ⟨hifr, hlatch⟩ := endCycle_ifr h
  refine ⟨fun _ hm => ?maskable, fun hm hset hclear => ?nmi, hlatch⟩
  case maskable => rw [hifr, getLsbD_nextIfr hm, getLsbD_hardwareClear hm]
  case nmi =>
    subst hm
    rw [hifr, getLsbD_nextIfr (by decide), getLsbD_hardwareClear (by decide), hset, hclear]
    rfl

/-! ## The cycles of an entry -/

/-- IACK and INUM are driven in the second cycle of an entry (60_exceptions.md R736). -/
theorem endCycle_outputs (h : s.endCycle n = .next t) :
    t.iack = decide (s.intHold = 6) ∧ t.inum = if s.intHold = 6 then s.entering else 0 := by
  obtain ⟨r, u, hr, hu, rfl⟩ := endCycle_next h
  obtain ⟨-, -, hiack, hinum, -⟩ := endCycle_flags hr hu
  rw [State.enter_iack, State.countDown_iack, State.enter_inum, State.countDown_inum]
  exact ⟨hiack, hinum⟩

/-- The effects of the packet are used up. -/
theorem endCycle_e1 (h : s.endCycle n = .next t) : t.e1 = {} := by
  obtain ⟨u, -, rfl⟩ := endCycle_landsAs h
  rw [State.enter_e1, State.countDown_e1]

/-- No interrupt is taken while one is being entered (60_exceptions.md R737). -/
theorem decision_of_entry (h : s.intHold ≠ 0) : s.decision = none :=
  if_neg fun hd => h hd.1

theorem endCycle_intHold (h : s.endCycle n = .next t) (hentry : s.intHold ≠ 0) : t.intHold + 1 = s.intHold := by
  obtain ⟨u, hu, rfl⟩ := endCycle_undecided h (decision_of_entry hentry)
  rw [State.countDown_intHold, hu.entry]
  omega

/-- Each cycle of an entry is the end of a cycle without a packet. -/
theorem step_entry (hreset : s.envNow.reset = false) (hentry : s.intHold ≠ 0) (h : step s = .next t) :
    s.takeEnv.endCycle none = .next t :=
  step_held_next hreset (held_iff.mpr (.inl hentry)) h

/-- No branch is in flight that could move pc, and no packet in E1 that could store. -/
structure State.Waits (s : State) : Prop where
  branches : s.pendingBranches = []
  effects : s.e1 = {}

/-- A cycle of an entry leaves pc and memory, and the next one waits as well. -/
theorem waits_step (hs : s.Waits) (hreset : s.envNow.reset = false) (hentry : s.intHold ≠ 0) (h : step s = .next t) :
    t.Waits ∧ t.pc = s.pc ∧ t.mem = s.mem := by
  obtain ⟨hbranches, heffects⟩ := hs
  have hend := step_entry hreset hentry h
  obtain ⟨-, hheld, -⟩ := programPointerAdvances
  obtain ⟨hpc, -⟩ := hheld _ _ hend (decision_of_entry hentry) (by simp [hbranches])
  refine ⟨⟨?_, endCycle_e1 hend⟩, hpc, ?_⟩
  · rw [endCycle_pendingBranches hend, State.nextBranches, State.takeEnv_pendingBranches, hbranches, State.takeEnv_e1,
      heffects]
    rfl
  · rw [endCycle_mem hend, State.takeEnv_e1, heffects]
    rfl

/-- An entry with k cycles left passes in k cycles, by induction on k. -/
theorem run_entry {k : Nat} (hk : s.intHold = k) (hs : s.Waits) (hreset : s.noReset k) (h : run k s = .next t) :
    t.intHold = 0 ∧ t.pc = s.pc ∧ t.mem = s.mem := by
  induction k generalizing s with
  | zero =>
    cases h
    exact ⟨hk, rfl, rfl⟩
  | succ k ih =>
    obtain ⟨u, hstep, hrun⟩ := run_succ_next.mp h
    have hnow := (noReset_succ.mp hreset).1
    have hentry : s.intHold ≠ 0 := by omega
    obtain ⟨hu, hpc, hmem⟩ := waits_step hs hnow hentry hstep
    have hend := step_entry hnow hentry hstep
    have hleft : u.intHold + 1 = s.intHold := endCycle_intHold (s := s.takeEnv) hend hentry
    rw [← hpc, ← hmem]
    exact ih (by omega) hu (noReset_of_env (endCycle_env hend) hreset) hrun

/-- Settles O29: an entry passes in as many cycles as it has left, each of which drives the outputs of its count. -/
theorem interruptEntryLastsSevenCycles : Obligations.InterruptEntryLastsSevenCycles := by
  refine ⟨fun s t hentry hb he hreset hrun => ?_, fun s t hreset hentry hstep => ?_⟩
  · obtain ⟨hleft, hpc, hmem⟩ := run_entry hentry ⟨hb, he⟩ hreset hrun
    exact ⟨hleft, hpc, fun a => by rw [hmem]⟩
  · have hend := step_entry hreset hentry hstep
    exact ⟨endCycle_intHold (s := s.takeEnv) hend hentry, endCycle_outputs (s := s.takeEnv) hend⟩

end Sys2Proof.Machine
end

section
/-! SUPPORT. The interrupt decision, and interrupt entry at the end of the cycle that takes it (60_exceptions.md R704,
R722 to R724, R730 to R733, R737, R738). -/

namespace Sys2Proof.Machine

variable {s t u w : State} {n : Option Nat} {m : BitVec 4}

/-! ## The decision -/

/-- The shadow of a branch is over when none is in E1 and none was in the four cycles before (60_exceptions.md R722). -/
theorem nextShadow_eq_zero : s.nextShadow = 0 ↔ s.e1.branchSeen = false ∧ s.branchShadow ≤ 1 := by
  unfold State.nextShadow
  split
  · next h => simp [h]
  · next h => simp only [h, true_and]; omega

/-- The interrupt taken is the lowest one pending and enabled, when the gates of R722 are open. -/
theorem decision_eq_some :
    s.decision = some m ↔
      (s.intHold = 0 ∧ (s.power = .none ∨ s.wakes = true) ∧ s.nextShadow = 0 ∧ s.nmie = true)
        ∧ (m = 1 ∨ s.gie = true) ∧ lowestSet (candidates s.nextIfr s.ier) = some m := by
  unfold State.decision
  split
  · next hopen =>
    cases lowestSet (candidates s.nextIfr s.ier) with
    | none => simp
    | some j =>
      dsimp only
      split
      · next hgie =>
        exact ⟨fun hm => ⟨hopen, Option.some.inj hm ▸ hgie, hm⟩, fun ⟨_, _, hm⟩ => hm⟩
      · next hgie => exact ⟨nofun, fun ⟨_, hm, hj⟩ => absurd (Option.some.inj hj ▸ hm) hgie⟩
  · next hshut => simp [hshut]

/-- The interrupts of higher priority that exist are those with a lower number (60_exceptions.md R702, R704). -/
theorem isHpeint_iff :
    s.IsHpeint m.toNat ↔ (m.toNat = 1 ∨ 4 ≤ m.toNat) ∧ s.ifr.getLsbD m.toNat = true ∧ s.ier.getLsbD m.toNat = true
      ∧ ∀ k < m.toNat, k = 1 ∨ 4 ≤ k → (s.ifr.getLsbD k && s.ier.getLsbD k) = false := by
  have hm := m.isLt
  simp only [State.IsHpeint, mem_interruptNumbers, Bool.and_eq_true]
  constructor
  · rintro ⟨hfirst, ⟨-, hexists⟩, hifr, hier⟩
    exact ⟨hexists, hifr, hier, fun k hk hk' => hfirst k ⟨hk.trans hm, hk'⟩ hk⟩
  · rintro ⟨hexists, hifr, hier, hfirst⟩
    exact ⟨fun k hk hlt => hfirst k hlt hk.2, ⟨hm, hexists⟩, hifr, hier⟩

/-- Settles O27: the interrupt taken is the one that ISTP.HPEINT would name with the flags as the cycle's end leaves
them. -/
theorem interruptIsTakenExactlyWhen : Obligations.InterruptIsTakenExactlyWhen := by
  intro s m
  have hlowest : lowestSet (candidates s.nextIfr s.ier) = some m ↔ State.IsHpeint { s with ifr := s.nextIfr } m.toNat :=
    lowestSet_candidates_iff (s := { s with ifr := s.nextIfr })
  rw [decision_eq_some, nextShadow_eq_zero, hlowest, isHpeint_iff]
  simp only [and_assoc]

/-! ## The program pointer -/

theorem toNat_entryAddress (s : State) (m : BitVec 4) :
    (s.entryAddress m).toNat = s.istb.toNat * 1024 + m.toNat * 32 := by
  have := s.istb.isLt
  have := m.isLt
  rw [entryAddress_eq_ofNat, BitVec.toNat_ofNat]
  omega

/-- D.3 moves pc as it would before D.1 and D.2. -/
theorem landsAs_pc_eq (hw : s.LandsAs n w) (hu : s.advancePc n = .ok u) : w.pc = u.pc := by
  rcases hw.pc with ⟨p, hp, hpc, -⟩ | ⟨hnone, k, rfl, hlt, hpc, -⟩ | ⟨hnone, rfl, hpc, -⟩
  · simp only [State.advancePc, hp] at hu
    cases hu
    exact hpc
  · simp only [State.advancePc, hnone, if_pos hlt] at hu
    cases hu
    exact hpc
  · simp only [State.advancePc, hnone] at hu
    cases hu
    exact hpc

/-! ## The entry -/

/-- `x` is what D.1 to D.5 make of `s`: interrupt entry starts from it. -/
structure State.BeforeEntry (s : State) (n : Option Nat) (x : State) : Prop where
  pc : ∀ u, s.advancePc n = .ok u → x.pc = u.pc
  istb : x.istb = s.controlled.istb
  irp : x.irp = s.controlled.irp
  nrp : x.nrp = s.controlled.nrp
  ier : x.ier = s.controlled.ier
  gie : x.gie = s.controlled.gie
  pgie : x.pgie = s.controlled.pgie

theorem landsAs_beforeEntry (hw : s.LandsAs n w) : s.BeforeEntry n (w.countDown s.nextShadow s.wakes) := by
  have hcsr (k : Nat) (hk : k < 9) :
      (w.countDown s.nextShadow s.wakes).csr.getLsbD k = s.controlled.csr.getLsbD k := by
    rw [countDown_csr_bit _ _ (.inl (by omega)), hw.csr, csrLanded_bit (by omega)]
  exact {
    pc := fun u hu => (State.countDown_pc ..).trans (landsAs_pc_eq hw hu)
    istb := (State.countDown_istb ..).trans hw.istb
    irp := (State.countDown_irp ..).trans hw.irp
    nrp := (State.countDown_nrp ..).trans hw.nrp
    ier := (State.countDown_ier ..).trans hw.ier
    gie := hcsr 0 (by decide)
    pgie := hcsr 1 (by decide) }

/-- A cycle that takes an interrupt ends with its entry. -/
theorem endCycle_decided (h : s.endCycle n = .next t) (hd : s.decision = some m) :
    ∃ x, s.BeforeEntry n x ∧ t = x.takeInterrupt m := by
  obtain ⟨w, hw, rfl⟩ := endCycle_landsAs h
  exact ⟨_, landsAs_beforeEntry hw, by rw [hd]; rfl⟩

/-- Entry goes to the service table and ends a hold (60_exceptions.md R733, R738). -/
theorem endCycle_entry_pc (h : s.endCycle n = .next t) (hd : s.decision = some m) :
    t.hold = .count 0 ∧ t.pc.toNat = s.controlled.istb.toNat * 1024 + m.toNat * 32 := by
  obtain ⟨x, hx, rfl⟩ := endCycle_decided h hd
  rw [State.takeInterrupt_hold, State.takeInterrupt_pc, toNat_entryAddress, hx.istb]
  exact ⟨rfl, rfl⟩

/-- Entry of INT4 to INT15: IRP, and GIE saved in PGIE and cleared (60_exceptions.md R730). -/
theorem endCycle_entry_maskable (h : s.endCycle n = .next t) (hd : s.decision = some m) (hu : s.advancePc n = .ok u)
    (hm : m ≠ 1) :
    t.irp = u.pc ∧ t.nrp = s.controlled.nrp ∧ t.ier = s.controlled.ier ∧ t.pgie = s.controlled.gie ∧ t.gie = false := by
  obtain ⟨x, hx, rfl⟩ := endCycle_decided h hd
  rw [takeInterrupt_maskable _ _ hm]
  refine ⟨hx.pc u hu, hx.nrp, hx.ier, ?_, setBit_same (by decide)⟩
  calc (setBit (setBit x.csr 1 x.gie) 0 false).getLsbD 1
    _ = (setBit x.csr 1 x.gie).getLsbD 1 := setBit_other (by decide) (by decide)
    _ = x.gie := setBit_same (by decide)
    _ = s.controlled.gie := hx.gie

/-- Entry of NMI: NRP, and NMIE cleared (60_exceptions.md R731). -/
theorem endCycle_entry_nmi (h : s.endCycle n = .next t) (hd : s.decision = some 1) (hu : s.advancePc n = .ok u) :
    t.nrp = u.pc ∧ t.irp = s.controlled.irp ∧ t.gie = s.controlled.gie ∧ t.pgie = s.controlled.pgie
      ∧ t.ier = setBit s.controlled.ier 1 false := by
  obtain ⟨x, hx, rfl⟩ := endCycle_decided h hd
  rw [takeInterrupt_nmi]
  exact ⟨hx.pc u hu, hx.irp, hx.gie, hx.pgie, congrArg (setBit · 1 false) hx.ier⟩

theorem controlled_of_no_write (h : s.e1.ctrl = []) : s.controlled = s.updateFlags := by
  rw [State.controlled, h]
  rfl

/-- Settles O28: entry saves and clears on top of what the packet's control-register writes leave. -/
theorem interruptEntrySavesAndRedirects : Obligations.InterruptEntrySavesAndRedirects := by
  intro s t u n m h hd hu
  obtain ⟨hhold, hpc⟩ := endCycle_entry_pc h hd
  obtain ⟨hintHold, hentering⟩ := endCycle_entry h hd
  refine ⟨hhold, hintHold, hentering, fun hc => ?unwritten, fun v b hc _ hm => ?csrWritten⟩
  case unwritten =>
    obtain ⟨hamr, histb⟩ := endCycle_amr_istb h hc
    have hctrl := controlled_of_no_write hc
    refine ⟨by rw [hpc, hctrl]; rfl, hamr, histb, fun hm => ?_, fun hm => ?_⟩
    · have hentry := endCycle_entry_maskable h hd hu hm
      rwa [hctrl] at hentry
    · subst hm
      obtain ⟨hnrp, hirp, hgie, hpgie, hier⟩ := endCycle_entry_nmi h hd hu
      rw [hctrl] at hirp hgie hpgie hier
      refine ⟨hnrp, hirp, hgie, hpgie, fun k _ => ?_⟩
      rw [hier, getLsbD_setBit _ _ _ _ (by decide)]
      split
      · next hk => rw [decide_eq_true hk, Bool.not_true, Bool.and_false]
      · next hk => rw [decide_eq_false hk, Bool.not_false, Bool.and_true]; rfl
  case csrWritten =>
    obtain ⟨hirp, -, -, hpgie, hgie⟩ := endCycle_entry_maskable h hd hu hm
    refine ⟨hirp, ?_, hgie⟩
    rw [hpgie, controlled_single hc]
    exact getLsbD_csr_written (by decide)

end Sys2Proof.Machine
end

section
/-! SUPPORT. The end of a power-down (60_exceptions.md R761). -/

namespace Sys2Proof.Machine

variable {s t : State} {n : Option Nat} {m : BitVec 4}

/-! ## What wakes the CPU -/

theorem ne_zero_iff_exists_getLsbD {k : Nat} {v : BitVec k} : v ≠ 0 ↔ ∃ j < k, v.getLsbD j = true := by
  refine (not_congr BitVec.zero_iff_eq_false).trans ?_
  simp only [not_forall, Bool.not_eq_false]
  exact exists_congr fun j => ⟨fun hbit => ⟨BitVec.lt_of_getLsbD hbit, hbit⟩, And.right⟩

theorem candidates_ne_zero {ifr ier : Word} :
    candidates ifr ier ≠ 0 ↔ ∃ m < 16, (m = 1 ∨ 4 ≤ m) ∧ ifr.getLsbD m = true ∧ ier.getLsbD m = true := by
  rw [ne_zero_iff_exists_getLsbD]
  refine exists_congr fun m => and_congr_right fun hm => ?_
  rw [getLsbD_candidates _ _ _ hm, Bool.and_eq_true, Bool.and_eq_true, decide_eq_true_eq]

/-- PWRD = 09h: an enabled interrupt. -/
theorem wakes_pd1Enabled (hp : s.power = .pd1Enabled) :
    s.wakes = true ↔ ∃ m < 16, (m = 1 ∨ 4 ≤ m) ∧ s.nextIfr.getLsbD m = true ∧ s.ier.getLsbD m = true := by
  rw [State.wakes, hp, ← candidates_ne_zero]
  exact bne_iff_ne

/-- PWRD = 11h: any interrupt, as if all were enabled. -/
theorem wakes_pd1Any (hp : s.power = .pd1Any) :
    s.wakes = true ↔ ∃ m < 16, (m = 1 ∨ 4 ≤ m) ∧ s.nextIfr.getLsbD m = true := by
  have hall : s.nextIfr.setWidth 16 &&& interruptMask = candidates s.nextIfr (BitVec.allOnes 32) := by
    rw [candidates, BitVec.and_allOnes]
  rw [State.wakes, hp]
  refine bne_iff_ne.trans ?_
  rw [hall, candidates_ne_zero]
  refine exists_congr fun m => and_congr_right fun hm => ?_
  rw [BitVec.getLsbD_allOnes, decide_eq_true (by omega : m < 32), eq_self, and_true]

/-- Only PD1 ends by an interrupt. -/
theorem power_of_wakes (hw : s.wakes = true) : s.power = .pd1Enabled ∨ s.power = .pd1Any := by
  cases hp : s.power with
  | pd1Enabled => exact .inl rfl
  | pd1Any => exact .inr rfl
  | _ => rw [State.wakes, hp] at hw; cases hw

/-! ## The end of a cycle asleep -/

/-- PWRD after a wake-up: as it was or 0 (log 16). -/
theorem countDown_woken_csr (s : State) (k : Nat) :
    (s.countDown k true).csr = s.csr
      ∨ ∀ j < 32,
        (s.countDown k true).csr.getLsbD j = (s.csr.getLsbD j && !(decide (10 ≤ j) && decide (j < 16))) := by
  rw [countDown_csr]
  cases s.freeBit with
  | true => exact .inl rfl
  | false => exact .inr fun j hj => getLsbD_and_mask (p := fun j => !(decide (10 ≤ j) && decide (j < 16))) (by decide) hj

theorem endCycle_woken_power (h : s.endCycle n = .next t) (hw : s.wakes = true) : t.power = .none := by
  obtain ⟨u, -, rfl⟩ := endCycle_landsAs h
  rw [State.enter_power, countDown_power, hw]
  rfl

/-- A cycle that wakes the CPU and takes no interrupt. -/
theorem endCycle_awake (h : s.endCycle n = .next t) (he : s.e1 = {}) (hsat : s.pendingSat = [])
    (hd : s.decision = none) (hw : s.wakes = true) :
    t.power = .none ∧ (t.csr = s.csr
      ∨ ∀ k < 32, t.csr.getLsbD k = (s.csr.getLsbD k && !(decide (10 ≤ k) && decide (k < 16)))) := by
  refine ⟨endCycle_woken_power h hw, ?_⟩
  obtain ⟨u, hu, rfl⟩ := endCycle_undecided h hd
  have hcsr : u.csr = s.csr := by
    rw [hu.csr, csrLanded_of_not_due (by simp [hsat]), controlled_csr (by simp [he]) (by simp [he])]
  rw [hw, ← hcsr]
  exact countDown_woken_csr u s.nextShadow

/-- A cycle that does not wake the CPU leaves the power-down as it is. -/
theorem endCycle_asleep (h : s.endCycle n = .next t) (he : s.e1 = {}) (hsat : s.pendingSat = [])
    (hd : s.decision = none) (hw : s.wakes = false) : t.power = s.power ∧ t.csr = s.csr := by
  obtain ⟨-, -, -, -, -, hcsr, hpower⟩ := controlRegistersAreKept s t n h
  exact ⟨hpower (by simp [he]) hw, hcsr (by simp [he]) (by simp [he]) (by simp [hsat]) hw (.inl hd)⟩

/-- PWRD when an interrupt that wakes the CPU is taken at once. -/
theorem endCycle_woken_pwrd (h : s.endCycle n = .next t) (he : s.e1 = {}) (hw : s.wakes = true) :
    (∀ k, 10 ≤ k → k < 16 → t.csr.getLsbD k = s.csr.getLsbD k) ∨ ∀ k, 10 ≤ k → k < 16 → t.csr.getLsbD k = false := by
  obtain ⟨u, hu, rfl⟩ := endCycle_landsAs h
  rw [hw]
  refine (countDown_woken_csr u s.nextShadow).imp (fun hkept k hk _ => ?_) fun hcleared k hk hlt => ?_
  · rw [enter_csr_bit (by omega), hkept, hu.csr, csrLanded_bit (by omega), controlled_of_no_write (by rw [he])]
    rfl
  · rw [enter_csr_bit (by omega), hcleared k (by omega)]
    simp [hk, hlt]

/-- With no packet and no branch due, D.3 holds pc. -/
theorem advancePc_held (hb : ∀ p ∈ s.pendingBranches, 1 < p.left) :
    s.advancePc none = .ok { s with hold := s.hold.tick, pendingBranches := s.nextBranches } := by
  simp only [State.advancePc, find_due_eq_none hb]

/-- The return pointer of an interrupt taken while pc is held. -/
theorem endCycle_entry_held (h : s.endCycle none = .next t) (hd : s.decision = some m)
    (hb : ∀ p ∈ s.pendingBranches, 1 < p.left) : (m ≠ 1 → t.irp = s.pc) ∧ (m = 1 → t.nrp = s.pc) := by
  refine ⟨fun hm => ?_, fun hm => ?_⟩
  · obtain ⟨hirp, -⟩ := endCycle_entry_maskable h hd (advancePc_held hb) hm
    exact hirp
  · obtain ⟨hnrp, -⟩ := endCycle_entry_nmi h (hm ▸ hd) (advancePc_held hb)
    exact hnrp

/-- Settles O32: in each mode the cycle wakes the CPU or leaves it asleep; an interrupt taken while powered down is one
that wakes it. -/
theorem powerDownEndsAsItsModeSays : Obligations.PowerDownEndsAsItsModeSays := by
  refine ⟨fun s t n h he hsat hd => ?noEntry, fun s t n m h he hp hd => ?entry⟩
  case noEntry =>
    intro enabled pending awake asleep
    have hawake : s.wakes = true → awake := endCycle_awake h he hsat hd
    have hasleep (hw : ¬ s.wakes = true) : asleep := endCycle_asleep h he hsat hd (by simpa using hw)
    have hstays (hp : s.power ≠ .pd1Enabled ∧ s.power ≠ .pd1Any) : asleep :=
      hasleep fun hw => (power_of_wakes hw).elim hp.1 hp.2
    exact ⟨fun hp hi => hawake ((wakes_pd1Enabled hp).mpr hi), fun hp hi => hasleep (hi ∘ (wakes_pd1Enabled hp).mp),
      fun hp hi => hawake ((wakes_pd1Any hp).mpr hi), fun hp hi => hasleep (hi ∘ (wakes_pd1Any hp).mp),
      fun hp => hstays (by rw [hp]; decide), fun hp => hstays (by rw [hp]; decide)⟩
  case entry =>
    obtain ⟨⟨-, hpower, -⟩, -⟩ := decision_eq_some.mp hd
    have hw : s.wakes = true := hpower.resolve_left hp
    obtain ⟨hintHold, hentering⟩ := endCycle_entry h hd
    refine ⟨power_of_wakes hw, endCycle_woken_power h hw, hintHold, hentering, endCycle_woken_pwrd h he hw, ?_⟩
    rintro rfl hb
    exact endCycle_entry_held h hd hb

end Sys2Proof.Machine
end

section
/-! SUPPORT. Results at the end of a cycle: which register each lands in, when two of them conflict, and how a result in
flight reaches its register (70_reset_and_hazards.md R803, R804 D.1, R820). -/

namespace Sys2Proof.Machine

variable {s t u v : State} {n : Option Nat} {d : Side} {r : BitVec 4} {k : Nat}

/-! ## Two writes of one register -/

theorem hasTwice_eq_false {α : Type} [DecidableEq α] {l : List α} : hasTwice l = false ↔ l.Nodup := by
  induction l with
  | nil => simp [hasTwice]
  | cons x l ih => simp [hasTwice, ih]

theorem hasTwice_eq_true {α : Type} [DecidableEq α] {l : List α} : hasTwice l = true ↔ ¬ l.Nodup := by
  rw [← hasTwice_eq_false, Bool.not_eq_false]

/-- Two places of a list that an image of it does not tell apart. -/
theorem not_nodup_map_iff {α β : Type} {f : α → β} {l : List α} :
    ¬ (l.map f).Nodup ↔ ∃ (i j : Nat) (x y : α), i < j ∧ f x = f y ∧ l[i]? = some x ∧ l[j]? = some y := by
  simp only [List.Nodup, List.pairwise_iff_getElem, List.length_map, List.getElem_map, List.getElem?_eq_some_iff]
  push Not
  constructor
  · rintro ⟨i, j, hi, hj, hlt, heq⟩
    exact ⟨i, j, _, _, hlt, heq, ⟨hi, rfl⟩, hj, rfl⟩
  · rintro ⟨i, j, _, _, hlt, heq, ⟨hi, rfl⟩, hj, rfl⟩
    exact ⟨i, j, hi, hj, hlt, heq⟩

theorem target_eq_iff {x y : RegWrite} : x.target = y.target ↔ x.side = y.side ∧ x.reg = y.reg := Prod.ext_iff

theorem retire_conflict :
    s.retire = .error (.fault .writeConflict) ↔ hasTwice (s.landing.map RegWrite.target) = true := by
  unfold State.retire
  split
  · next h => simp [h]
  · next h => simp [h]

/-- D.3 stops by pcWrap alone. -/
theorem advancePc_error {e : Stop} (h : s.advancePc n = .error e) : e = .fault .pcWrap := by
  unfold State.advancePc at h
  split at h
  · cases h
  · split at h
    · split at h
      · cases h
      · cases h; rfl
    · cases h

/-- The end of a cycle stops by writeConflict where D.1 does. -/
theorem endCycle_conflict : s.endCycle n = .fault .writeConflict ↔ s.retire = .error (.fault .writeConflict) := by
  rcases retire_cases s with hr | ⟨r, hr⟩
  · simp [State.endCycle, hr, bind, Except.bind, outcome]
  · cases hu : r.commitStores.updateControl.advancePc n with
    | ok u => simp [State.endCycle, hr, hu, bind, Except.bind]
    | error e =>
      obtain rfl := advancePc_error hu
      simp [State.endCycle, hr, hu, bind, Except.bind, outcome]

/-- Settles O20: D.1 is where this fault comes from, and it looks for one target at two places. -/
theorem twoWritesToOneRegisterAreAFault : Obligations.TwoWritesToOneRegisterAreAFault := by
  intro s n
  rw [endCycle_conflict, retire_conflict, hasTwice_eq_true, not_nodup_map_iff]
  simp only [target_eq_iff, and_assoc]
  rfl

/-! ## What a register reads after a cycle -/

/-- A write of a list that writes no register twice is the one found for its register. -/
theorem find_target_of_mem {ws : List RegWrite} {w : RegWrite} (honce : hasTwice (ws.map RegWrite.target) = false)
    (hw : w ∈ ws) : ws.find? (fun x => x.target == (w.side, w.reg)) = some w := by
  cases hfind : ws.find? (fun x => x.target == (w.side, w.reg)) with
  | none => exact absurd (beq_self_eq_true w.target) (List.find?_eq_none.mp hfind w hw)
  | some x =>
    have htarget : x.target = w.target := by simpa [RegWrite.target] using List.find?_some hfind
    rw [List.inj_on_of_nodup_map (hasTwice_eq_false.mp honce) (List.mem_of_find?_eq_some hfind) hw htarget]

theorem find_target_eq_none {ws : List RegWrite} (h : ∀ w ∈ ws, ¬ (w.side = d ∧ w.reg = r)) :
    ws.find? (fun x => x.target == (d, r)) = none :=
  List.find?_eq_none.mpr fun w hw => by simpa [RegWrite.target] using h w hw

/-- A write that lands is what its register reads. -/
theorem endCycle_file_landed {w : RegWrite} (h : s.endCycle n = .next t) (hw : w ∈ s.landing) :
    (t.file w.side).read w.reg = w.value := by
  obtain ⟨_, _, hr, -, -⟩ := endCycle_next h
  obtain ⟨honce, -⟩ := retire_ok hr
  rw [endCycle_file h, find_target_of_mem honce hw]
  rfl

/-- Settles O19: the writes that land are the list that D.1 applies. -/
theorem registersAtTheEndOfACycle : Obligations.RegistersAtTheEndOfACycle := by
  intro s t n h lands
  have hlands (w : RegWrite) : w ∈ s.landing ↔ lands w := mem_landing.trans or_comm
  exact ⟨fun w hw => endCycle_file_landed h ((hlands w).mpr hw),
    fun d r hfree => endCycle_file_kept h fun w hw => hfree w ((hlands w).mp hw)⟩

/-! ## A result in flight -/

/-- What a step without Reset does to the schedule and to a result in flight: it lands, or is one cycle nearer. -/
theorem step_late {p : LateWrite} (hreset : s.envNow.reset = false) (h : step s = .next t) (hp : p ∈ s.pendingRegs) :
    t.env = s.env.tail
      ∧ (p.left ≤ 1 → (t.file p.write.side).read p.write.reg = p.write.value)
      ∧ (1 < p.left → { p with left := p.left - 1 } ∈ t.pendingRegs) := by
  rcases step_cases h with ⟨hr, -⟩ | ⟨v, n, hadds, -, hend⟩
  · exact absurd hr (by rw [hreset]; decide)
  · have hv : p ∈ v.pendingRegs := by rwa [hadds.same State.pendingRegs fun _ _ _ => rfl]
    refine ⟨(endCycle_env hend).trans (hadds.same State.env fun _ _ _ => rfl), fun hdue => ?_, fun hlt => ?_⟩
    · exact endCycle_file_landed hend (mem_landing.mpr (.inl ⟨p, hv, hdue, rfl⟩))
    · rw [endCycle_pendingRegs hend]
      exact List.mem_append_left _ (mem_stillLate.mpr ⟨p, hv, hlt, rfl⟩)

/-- A result with k + 1 cycles left lands in the last of them, whatever the cycles before do. -/
theorem run_late_lands {w : RegWrite} (hp : { write := w, left := k + 1 } ∈ s.pendingRegs) (hreset : s.noReset (k + 1))
    (h : run (k + 1) s = .next t) : (t.file w.side).read w.reg = w.value := by
  induction k generalizing s with
  | zero =>
    obtain ⟨u, hstep, hrun⟩ := run_succ_next.mp h
    cases hrun
    obtain ⟨-, hland, -⟩ := step_late (noReset_succ.mp hreset).1 hstep hp
    exact hland (Nat.le_refl 1)
  | succ k ih =>
    obtain ⟨u, hstep, hrun⟩ := run_succ_next.mp h
    obtain ⟨henv, -, hstays⟩ := step_late (noReset_succ.mp hreset).1 hstep hp
    exact ih (hstays (by simp)) (noReset_of_env henv hreset) hrun

/-- A result with more than k cycles left is still in flight after k of them. -/
theorem run_late_stays {p : LateWrite} (hp : p ∈ s.pendingRegs) (hk : k < p.left) (hreset : s.noReset k)
    (h : run k s = .next t) : { p with left := p.left - k } ∈ t.pendingRegs := by
  induction k generalizing s p with
  | zero => cases h; exact hp
  | succ k ih =>
    obtain ⟨u, hstep, hrun⟩ := run_succ_next.mp h
    obtain ⟨henv, -, hstays⟩ := step_late (noReset_succ.mp hreset).1 hstep hp
    have hu := ih (hstays (by omega)) (by dsimp only; omega) (noReset_of_env henv hreset) hrun
    rwa [Nat.sub_sub, Nat.add_comm 1 k] at hu

/-! ## A register that nothing goes to -/

/-- The packet that issues in the coming cycle, if one does, writes no result, at once or late, to this register. -/
def State.issuesNoWrite (s : State) (d : Side) (r : BitVec 4) : Prop :=
  ∀ (v : State) (is : List Instr), s.held = false → s.takeEnv.packet = .ok is → runPacket is s.takeEnv = .next v →
    ∀ w ∈ v.e1.regs ++ v.e1.late.map LateWrite.write, ¬ (w.side = d ∧ w.reg = r)

/-- Nothing in flight for this register falls due within k cycles. -/
def State.noneDue (s : State) (d : Side) (r : BitVec 4) (k : Nat) : Prop :=
  ∀ p ∈ s.pendingRegs, p.write.side = d → p.write.reg = r → k < p.left

/-- The end of a cycle whose packet does not write the register, when nothing due goes to it. -/
theorem endCycle_unwritten (h : s.endCycle n = .next t)
    (hpacket : ∀ w ∈ s.e1.regs ++ s.e1.late.map LateWrite.write, ¬ (w.side = d ∧ w.reg = r))
    (hdue : s.noneDue d r (k + 1)) : (t.file d).read r = (s.file d).read r ∧ t.noneDue d r k := by
  constructor
  · refine endCycle_file_kept h fun w hw ⟨hd, hr⟩ => ?_
    rcases mem_landing.mp hw with ⟨p, hp, hleft, rfl⟩ | hw
    · have := hdue p hp hd hr
      omega
    · exact hpacket w (List.mem_append_left _ hw) ⟨hd, hr⟩
  · intro q hq hd hr
    rw [endCycle_pendingRegs h] at hq
    rcases List.mem_append.mp hq with hq | hq
    · obtain ⟨p, hp, -, rfl⟩ := mem_stillLate.mp hq
      have := hdue p hp hd hr
      dsimp only
      omega
    · exact absurd ⟨hd, hr⟩ (hpacket q.write (List.mem_append_right _ (List.mem_map_of_mem hq)))

/-- A step in which no packet writes the register, when nothing due goes to it. -/
theorem step_unwritten (he : s.e1 = {}) (hreset : s.envNow.reset = false) (h : step s = .next t)
    (hissue : s.issuesNoWrite d r) (hdue : s.noneDue d r (k + 1)) :
    (t.file d).read r = (s.file d).read r ∧ t.noneDue d r k ∧ t.e1 = {} ∧ t.env = s.env.tail := by
  rcases step_next h with ⟨hr, -⟩ | ⟨-, -, hend⟩ | ⟨-, hheld, is, v, hpacket, hrun, hend⟩
  · exact absurd hr (by rw [hreset]; decide)
  · obtain ⟨hfile, hdue'⟩ := endCycle_unwritten hend (by simp [he]) hdue
    exact ⟨hfile.trans (by cases d <;> rfl), hdue', endCycle_e1 hend, endCycle_env hend⟩
  · obtain ⟨hadds, -⟩ := runPacket_addsEffects hrun
    have hregs : v.pendingRegs = s.pendingRegs := hadds.same State.pendingRegs fun _ _ _ => rfl
    have hvfile : v.file d = s.file d := hadds.same (State.file · d) fun _ _ _ => by cases d <;> rfl
    have henv : v.env = s.env.tail := hadds.same State.env fun _ _ _ => rfl
    have hvdue : v.noneDue d r (k + 1) := by rwa [State.noneDue, hregs]
    obtain ⟨hfile, hdue'⟩ := endCycle_unwritten hend (hissue v is hheld hpacket hrun) hvdue
    exact ⟨by rw [hfile, hvfile], hdue', endCycle_e1 hend, (endCycle_env hend).trans henv⟩

/-- Over k cycles the register keeps its value. -/
theorem run_unwritten (he : s.e1 = {}) (hreset : s.noReset k) (hdue : s.noneDue d r k)
    (hissue : ∀ j < k, ∀ u : State, run j s = .next u → u.issuesNoWrite d r) (h : run k s = .next t) :
    (t.file d).read r = (s.file d).read r := by
  induction k generalizing s with
  | zero => cases h; rfl
  | succ k ih =>
    obtain ⟨u, hstep, hrun⟩ := run_succ_next.mp h
    obtain ⟨hfile, hdue', he', henv⟩ :=
      step_unwritten he (noReset_succ.mp hreset).1 hstep (hissue 0 (Nat.succ_pos k) s rfl) hdue
    rw [← hfile]
    exact ih he' (noReset_of_env henv hreset) hdue'
      (fun j hj x hx => hissue (j + 1) (by omega) x (run_succ_next.mpr ⟨u, hstep, hx⟩)) hrun

/-- Settles O21: a result in flight by induction on its cycles left, an unwritten register by induction on the cycles
run. -/
theorem delayedResultLands : Obligations.DelayedResultLands := by
  refine ⟨fun s t p hp hlive hreset hrun => ?_, fun s t p k hp hk hreset hrun => run_late_stays hp hk hreset hrun,
    fun s t d r k he hreset hdue hissue hrun => ?_, fun s t n h p hp => ?_⟩
  · obtain ⟨w, left⟩ := p
    obtain ⟨k, rfl⟩ := Nat.exists_eq_add_of_le' hlive
    exact run_late_lands hp hreset hrun
  · exact run_unwritten he hreset hdue (fun j hj u hu v is => hissue j hj u v is hu) hrun
  · rw [endCycle_pendingRegs h]
    exact List.mem_append_right _ hp

end Sys2Proof.Machine
end

section
/-! SUPPORT. The resources of a packet (70_reset_and_hazards.md R810 to R828). -/

namespace Sys2Proof

/-! ## The resources of one instruction -/

/-- An instruction reads at most four registers, and none both has a 40-bit source and stores. -/
def Use.Modest (u : Use) : Prop :=
  u.reads.length ≤ 4 ∧ (u.longSource = none ∨ u.storeFile = none)

theorem OpType.reads_length (t : OpType) (d : Side) (x : Bool) (f : BitVec 5) : (t.reads d x f).length ≤ 2 := by
  cases t <;> exact Nat.le_of_ble_eq_true rfl

theorem use3_modest (k : FuncUnit) (t1 t2 td : OpType) (o : Ops3) : (use3 k t1 t2 td o).Modest := by
  have h1 := t1.reads_length o.side o.x o.src1
  have h2 := t2.reads_length o.side o.x o.src2
  exact ⟨by rw [use3, List.length_append]; omega, .inr rfl⟩

theorem useS2_modest (t2 td : OpType) (o : Ops3) : (useS2 t2 td o).Modest := use3_modest .s .none t2 td o

theorem useD_modest (t1 : OpType) (o : OpsD) : (useD t1 o).Modest := by
  have h1 := t1.reads_length o.side false o.src1
  exact ⟨by rw [useD, List.length_append, List.length_singleton]; omega, .inl rfl⟩

theorem useK_modest (readsDst : Bool) (o : OpsK) : (useK readsDst o).Modest := by
  cases readsDst <;> exact ⟨Nat.le_of_ble_eq_true rfl, .inl rfl⟩

theorem useMem_modest (store : Bool) (o : OpsMem) : (useMem store o).Modest := by
  refine ⟨?_, .inl rfl⟩
  rw [useMem]
  cases o.mode.usesReg <;> cases store <;> exact Nat.le_of_ble_eq_true rfl

theorem useMem15_modest (store : Bool) (o : OpsMem15) : (useMem15 store o).Modest := by
  cases store <;> exact ⟨Nat.le_of_ble_eq_true rfl, .inl rfl⟩

theorem use_modest (i : Instr) : i.use.Modest := by
  cases i with
  | mvcRead o | mvcWrite o | bReg o => exact useS2_modest _ _ o
  | addD o | addDCst o | subD o | subDCst o | addab o | addabCst o | addah o | addahCst o | addaw o | addawCst o
  | subab o | subabCst o | subah o | subahCst o | subaw o | subawCst o | mvD o | zeroD o => exact useD_modest _ _
  | addk o | mvk o | mvkh o | mvkl o | mvklh o => exact useK_modest _ o
  | extu o | ext o | set o | clr o => exact ⟨Nat.le_of_ble_eq_true rfl, .inl rfl⟩
  | bIrp o | bNrp o | bDisp o | nop n | nop9 | idle => exact ⟨Nat.zero_le 4, .inl rfl⟩
  | ldhu o | ldbu o | ldb o | stb o | ldh o | sth o | ldw o | stw o => exact useMem_modest _ o
  | ldhu15 o | ldbu15 o | ldb15 o | stb15 o | ldh15 o | sth15 o | ldw15 o | stw15 o => exact useMem15_modest _ o
  | _ => exact use3_modest _ _ _ _ _

end Sys2Proof

namespace Sys2Proof.Machine

/-! ## Lists of resources -/

theorem timesIn_eq_count {α : Type} [DecidableEq α] [BEq α] [LawfulBEq α] (x : α) (l : List α) :
    timesIn x l = l.count x := by
  induction l with
  | nil => rfl
  | cons y l ih => simp only [timesIn, ih, List.count_cons, Nat.add_comm, beq_iff_eq]

/-- Two instructions use one resource of a kind. -/
def shares {β : Type} (f : Instr → Option β) (i j : Instr) : Prop :=
  f i ≠ none ∧ f i = f j

/-- A kind of resource that no two instructions of a packet share. -/
theorem hasTwice_filterMap_eq_false {β : Type} [DecidableEq β] {f : Instr → Option β} {packet : List Instr} :
    hasTwice (packet.filterMap f) = false ↔ packet.Pairwise fun i j => ¬ shares f i j := by
  rw [hasTwice_eq_false, List.Nodup, List.pairwise_filterMap]
  refine List.Pairwise.iff fun i j => ?_
  unfold shares
  cases f i <;> cases f j <;> simp

/-- The resource constraints on a packet, each over its whole (R810, R812, R822, R824, R826). -/
structure Legal (packet : List Instr) : Prop where
  units : packet.Pairwise fun i j => ¬ shares (·.use.unit) i j
  cross : packet.Pairwise fun i j => ¬ shares (·.use.cross) i j
  dataPath : packet.Pairwise fun i j => ¬ shares (·.use.dataPath) i j
  longResult : packet.Pairwise fun i j => ¬ shares (·.use.longResult) i j
  longSource : packet.Pairwise fun i j => ¬ shares (·.use.longSource) i j
  stores : ∀ i ∈ packet, ∀ j ∈ packet, i.use.longSource ≠ none → i.use.longSource ≠ j.use.storeFile
  reads : ∀ r, (packet.flatMap (·.use.reads)).count r ≤ 4

/-- No file is both that of a long source and that of a store. -/
theorem longSourceWithStore_eq_false {packet : List Instr} :
    ((packet.filterMap (·.use.longSource)).any fun f => decide (f ∈ packet.filterMap (·.use.storeFile))) = false
      ↔ ∀ i ∈ packet, ∀ j ∈ packet, i.use.longSource ≠ none → i.use.longSource ≠ j.use.storeFile := by
  simp only [List.any_eq_false, List.mem_filterMap, decide_eq_true_eq, Option.ne_none_iff_exists']
  constructor
  · rintro h i hi j hj ⟨f, hf⟩ heq
    exact h f ⟨i, hi, hf⟩ ⟨j, hj, heq ▸ hf⟩
  · rintro h f ⟨i, hi, hf⟩ ⟨j, hj, hs⟩
    exact h i hi j hj ⟨f, hf⟩ (hf.trans hs.symm)

/-- No register is read five times. -/
theorem fiveReads_eq_false {α : Type} [DecidableEq α] [BEq α] [LawfulBEq α] {reads : List α} :
    (reads.any fun r => decide (4 < timesIn r reads)) = false ↔ ∀ r, reads.count r ≤ 4 := by
  simp only [List.any_eq_false, decide_eq_true_eq, Nat.not_lt, timesIn_eq_count]
  refine ⟨fun h r => ?_, fun h r _ => h r⟩
  by_cases hr : r ∈ reads
  · exact h r hr
  · rw [List.count_eq_zero_of_not_mem hr]
    exact Nat.zero_le 4

theorem ite_some_eq_none {α : Type} {c : Bool} {e : α} {rest : Option α} :
    (if c = true then some e else rest) = none ↔ c = false ∧ rest = none := by
  cases c <;> simp

/-- A packet has no error exactly when it keeps to every constraint. -/
theorem packetError_eq_none {packet : List Instr} : packetError packet = none ↔ Legal packet := by
  have hconj : Legal packet ↔ _ ∧ _ ∧ _ ∧ _ ∧ _ ∧ _ ∧ _ :=
    ⟨fun ⟨h1, h2, h3, h4, h5, h6, h7⟩ => ⟨h1, h2, h3, h4, h5, h6, h7⟩,
      fun ⟨h1, h2, h3, h4, h5, h6, h7⟩ => ⟨h1, h2, h3, h4, h5, h6, h7⟩⟩
  rw [hconj, packetError]
  simp only [ite_some_eq_none, List.filterMap_map, List.flatMap_map, Function.comp_def, and_true,
    hasTwice_filterMap_eq_false, longSourceWithStore_eq_false, fiveReads_eq_false]

/-- Two instructions at two places of a packet that share a unit. -/
theorem packetError_unitTwice {packet : List Instr} (h : ¬ packet.Pairwise fun i j => ¬ shares (·.use.unit) i j) :
    packetError packet = some .unitTwice := by
  have htwice : hasTwice ((packet.map Instr.use).filterMap Use.unit) = true := by
    rw [← Bool.not_eq_false, List.filterMap_map]
    exact mt hasTwice_filterMap_eq_false.mp h
  rw [packetError]
  exact if_pos htwice

/-- Two places of a list that a relation forbids. -/
theorem not_pairwise_of_places {α : Type} {R : α → α → Prop} {before between after : List α} {x y : α} (h : ¬ R x y) :
    ¬ (before ++ x :: between ++ y :: after).Pairwise R := by
  intro hp
  rw [List.append_assoc, List.cons_append] at hp
  have hx := List.rel_of_pairwise_cons (List.pairwise_append.mp hp).2.1 (a' := y)
  exact h (hx (by simp))

/-- No two instructions, and by `use_modest` no one alone, bring a long source and a store of one file together. -/
theorem stores_of_pairwise {packet : List Instr}
    (h : packet.Pairwise fun i j => (i.use.longSource ≠ none → i.use.longSource ≠ j.use.storeFile)
      ∧ (j.use.longSource ≠ none → j.use.longSource ≠ i.use.storeFile)) :
    ∀ i ∈ packet, ∀ j ∈ packet, i.use.longSource ≠ none → i.use.longSource ≠ j.use.storeFile := by
  have hself (i : Instr) (hs : i.use.longSource ≠ none) : i.use.longSource ≠ i.use.storeFile := by
    obtain ⟨-, hlong | hstore⟩ := use_modest i
    · exact absurd hlong hs
    · rwa [hstore]
  intro i hi j hj
  obtain ⟨hij, -⟩ := List.Pairwise.forall_of_forall_of_flip (fun i _ => ⟨hself i, hself i⟩) h
    (h.imp fun ⟨hij, hji⟩ => ⟨hji, hij⟩) hi hj
  exact hij

/-- Settles O13: each constraint of `Legal` is broken by its clash, and pairs without a clash keep to all of them. -/
theorem sharedResourcesMakeAPacketIllegal : Obligations.SharedResourcesMakeAPacketIllegal := by
  unfold Obligations.SharedResourcesMakeAPacketIllegal
  intro share clash readsOf
  have hreads (packet : List Instr) (r : Side × BitVec 5) :
      (packet.flatMap (·.use.reads)).count r = readsOf packet r := List.count_flatMap
  refine ⟨?twoPlaces, fun packet r hfive hnone => ?fiveReads,
    fun packet hpairs hfew => packetError_eq_none.mpr ?legal⟩
  case twoPlaces =>
    intro before between after i j packet
    refine ⟨fun hclash hnone => ?_, fun hsome heq =>
      packetError_unitTwice (not_pairwise_of_places (not_not_intro ⟨hsome, heq⟩))⟩
    have hlegal := packetError_eq_none.mp hnone
    have hi : i ∈ packet := by simp [packet]
    have hj : j ∈ packet := by simp [packet]
    rcases hclash with h | h | h | h | h | ⟨h, heq⟩ | ⟨h, heq⟩
    · exact not_pairwise_of_places (not_not_intro h) hlegal.units
    · exact not_pairwise_of_places (not_not_intro h) hlegal.cross
    · exact not_pairwise_of_places (not_not_intro h) hlegal.dataPath
    · exact not_pairwise_of_places (not_not_intro h) hlegal.longResult
    · exact not_pairwise_of_places (not_not_intro h) hlegal.longSource
    · exact hlegal.stores i hi j hj h heq
    · exact hlegal.stores j hj i hi h heq
  case fiveReads =>
    have hle := (packetError_eq_none.mp hnone).reads r
    rw [hreads] at hle
    omega
  case legal =>
    simp only [clash, not_or] at hpairs
    exact {
      units := hpairs.imp fun ⟨h, _⟩ => h
      cross := hpairs.imp fun ⟨_, h, _⟩ => h
      dataPath := hpairs.imp fun ⟨_, _, h, _⟩ => h
      longResult := hpairs.imp fun ⟨_, _, _, h, _⟩ => h
      longSource := hpairs.imp fun ⟨_, _, _, _, h, _⟩ => h
      stores := stores_of_pairwise (hpairs.imp fun ⟨_, _, _, _, _, h, h'⟩ => ⟨not_and.mp h, not_and.mp h'⟩)
      reads := fun r => by rw [hreads]; exact hfew r }

end Sys2Proof.Machine
end

section
/-! SUPPORT. The issue of the packet at pc (70_reset_and_hazards.md R804, R815, 30_encoding.md R206, R248, 20_memory.md
R141, R143), and the lone instruction of a quiet state. -/

namespace Sys2Proof.Machine

variable {s t : State} {w : Word} {ws : List Word} {i : Instr} {is : List Instr}

/-! ## The packet at pc -/

theorem packet_of_decoded (hfetch : s.fetchPacket = .ok ws) (hdecode : decodeAll ws = .ok is)
    (hlegal : packetError is = none) : s.packet = .ok is := by
  simp only [State.packet, hfetch, hdecode, hlegal, bind, Except.bind]

theorem packet_of_illegal {e : PacketError} (hfetch : s.fetchPacket = .ok ws) (hdecode : decodeAll ws = .ok is)
    (hillegal : packetError is = some e) : s.packet = .error (.refused (.illegalPacket e)) := by
  simp only [State.packet, hfetch, hdecode, hillegal, bind, Except.bind]

theorem packet_of_undecoded {e : Stop} (hfetch : s.fetchPacket = .ok ws) (hdecode : decodeAll ws = .error e) :
    s.packet = .error e := by
  simp only [State.packet, hfetch, hdecode, bind, Except.bind]

theorem packet_of_unfetched {e : Stop} (hfetch : s.fetchPacket = .error e) : s.packet = .error e := by
  simp only [State.packet, hfetch, bind, Except.bind]

/-- The first word that is no instruction is the one reported (log 49). -/
theorem decodeAll_error {before after : List Word} {e : DecodeError} (hbefore : ∀ v ∈ before, ∃ i, decode v = .ok i)
    (hw : decode w = .error e) : decodeAll (before ++ w :: after) = .error (.refused (.illegalWord e)) := by
  induction before with
  | nil => simp only [List.nil_append, decodeAll, hw]
  | cons v before ih =>
    obtain ⟨i, hi⟩ := hbefore v List.mem_cons_self
    have hrest := ih fun x hx => hbefore x (List.mem_cons_of_mem v hx)
    simp only [List.cons_append, decodeAll, hi, hrest, bind, Except.bind]

/-- One instruction alone breaks no constraint. -/
theorem packetError_alone (i : Instr) : packetError [i] = none := by
  obtain ⟨hreads, hlong⟩ := use_modest i
  exact packetError_singleton hreads hlong

/-- A word with p = 0 at an aligned pc is a packet of its own. -/
theorem fetchPacket_single (hpc : s.pc.toNat % 4 = 0) (hw : s.fetchWord s.pc = .ok w) (hp : w.getLsbD 0 = false) :
    s.fetchPacket = .ok [w] := by
  rw [State.fetchPacket, if_neg (not_not_intro ((aligned_iff _).mpr hpc)), fetchChain_last hw hp]

/-- Where no region is reached by fetch, the fetch is unmapped. -/
theorem fetchPacket_unmapped (hpc : s.pc.toNat % 4 = 0) (hmap : s.fetchRegion s.pc.toNat = none) :
    s.fetchPacket = .error (.fault .unmappedAccess) := by
  rw [State.fetchPacket, if_neg (not_not_intro ((aligned_iff _).mpr hpc))]
  simp only [State.fetchChain, State.fetchWord, State.fetchByte, hmap, bind, Except.bind]

/-- Data memory and peripherals do not answer a fetch (20_memory.md R141). -/
theorem fetchRegion_eq_none {a : Nat} (h : ∀ r ∈ s.launch.map, r.base ≤ a → a < r.base + r.size →
    r.space = .data ∨ r.space = .peripheral) : s.fetchRegion a = none := by
  refine List.find?_eq_none.mpr fun r hr hreached => ?_
  simp only [regionHas, Bool.and_eq_true, decide_eq_true_eq] at hreached
  obtain ⟨⟨hbase, hend⟩, hspace⟩ := hreached
  rcases h r hr hbase hend with hdata | hperipheral
  · rw [hdata] at hspace; cases hspace
  · rw [hperipheral] at hspace; cases hspace

/-! ## The step that issues it -/

/-- What the end of the cycle makes of a packet of n words in E1; a stop of the packet is the step's. -/
def endPacket (n : Nat) : Out → Out
  | .next t => t.endCycle (some n)
  | .fault f => .fault f
  | .refused r => .refused r

theorem runPacket_singleton (i : Instr) (s : State) : runPacket [i] s = exec i s := by
  simp only [runPacket]
  cases exec i s <;> rfl

section
variable (hreset : s.envNow.reset = false) (hheld : s.held = false)
include hreset hheld

theorem step_of_packet (hpacket : s.takeEnv.packet = .ok is) :
    step s = endPacket is.length (runPacket is s.takeEnv) := by
  have hissues : s.takeEnv.held = false := hheld
  simp only [step, State.cycle, hreset, hissues, hpacket, Bool.false_eq_true, if_false]
  cases runPacket is s.takeEnv <;> rfl

theorem step_of_no_packet {e : Stop} (hpacket : s.takeEnv.packet = .error e) : step s = outcome (.error e) := by
  have hissues : s.takeEnv.held = false := hheld
  simp only [step, State.cycle, hreset, hissues, hpacket, Bool.false_eq_true, if_false]

/-- The lone instruction at pc. -/
theorem step_of_single (hpc : s.pc.toNat % 4 = 0) (hw : s.fetchWord s.pc = .ok w) (hp : w.getLsbD 0 = false)
    (hi : decode w = .ok i) : step s = endPacket 1 (exec i s.takeEnv) := by
  have hdecode : decodeAll [w] = .ok [i] := by simp only [decodeAll, hi, bind, Except.bind]
  have hpacket := packet_of_decoded ((fetchPacket_takeEnv s).trans (fetchPacket_single hpc hw hp)) hdecode
    (packetError_alone i)
  rw [step_of_packet hreset hheld hpacket, runPacket_singleton, List.length_singleton]

end

/-- Settles O10: a word with p = 0 is a legal packet of one instruction. -/
theorem stepRunsTheDecodedInstruction : Obligations.StepRunsTheDecodedInstruction := by
  intro s w i hreset hheld hpc hw hp hi
  rw [step_of_single hreset hheld hpc hw hp hi]
  cases exec i s.takeEnv <;> rfl

/-- Settles O11: the packet runs, breaks a constraint, holds a word that is none, or cannot be fetched. -/
theorem stepRunsAWholePacket : Obligations.StepRunsAWholePacket := by
  refine ⟨fun s ws hreset hheld hfetch => ?fetched, fun s hreset hheld hpc hmap => ?unmapped⟩
  case fetched =>
    have hfetch := (fetchPacket_takeEnv s).trans hfetch
    refine ⟨fun is hdecode => ⟨fun hlegal => ?_, fun e hillegal => ?_⟩, fun before after w e hws hbefore hw => ?_⟩
    · rw [step_of_packet hreset hheld (packet_of_decoded hfetch hdecode hlegal)]
      cases runPacket is s.takeEnv <;> rfl
    · exact step_of_no_packet hreset hheld (packet_of_illegal hfetch hdecode hillegal)
    · subst hws
      exact step_of_no_packet hreset hheld (packet_of_undecoded hfetch (decodeAll_error hbefore hw))
  case unmapped =>
    have hfetch := fetchPacket_unmapped hpc (fetchRegion_eq_none hmap)
    exact step_of_no_packet hreset hheld (packet_of_unfetched ((fetchPacket_takeEnv s).trans hfetch))

/-! ## A lone instruction in a quiet state -/

/-- Settles O35: the end of a quiet state's cycle lands the two lists of effects, each of which names a place once. -/
theorem loneInstructionChangesOnlyItsResults : Obligations.LoneInstructionChangesOnlyItsResults := by
  intro s u w i regs cells hs hpc hend hw hp hi hexec heffects hregs hcells
  have honce : hasTwice (regs.map RegWrite.target) = false :=
    hasTwice_eq_false.mpr (List.pairwise_map.mpr (hregs.imp fun h heq => h (target_eq_iff.mp heq)))
  have hu : u = s.inE1 regs cells u.freeIdx := by
    rw [State.inE1, ← heffects]
    exact (exec_makesEffects hexec).addsEffects.rest
  refine ⟨_, step_eq_landed hs hpc hend hw hp hi (packetError_alone i) (hu ▸ hexec) honce, landed_rest ..,
    fun x hx => ?_, fun d r hr => ?_, fun c hc => ?_, fun a ha => Memory.read_writeAll_other _ _ _ ha⟩
  · rw [file_landed honce, find_target_of_mem honce hx]
    rfl
  · rw [file_landed honce, find_target_eq_none hr]
    rfl
  · refine Memory.read_writeAll_of_unique _ hc fun e he haddr => ?_
    exact List.inj_on_of_nodup_map (List.pairwise_map.mpr hcells) he hc haddr

end Sys2Proof.Machine
end

section
/-! SUPPORT. A CPU that is idle or powered down with nothing in flight (70_reset_and_hazards.md R861 (a),
45_move_control.md R655, 60_exceptions.md R761). -/

namespace Sys2Proof.Machine

/-- Held without an end: nothing is in flight or arriving, and no interrupt is taken or wakes the CPU. -/
structure State.Asleep (s : State) : Prop where
  held : s.held = true
  hold : s.hold.tick = s.hold
  regs : s.pendingRegs = []
  branches : s.pendingBranches = []
  sat : s.pendingSat = []
  command : s.pendingIfr = {}
  shadow : s.branchShadow = 0
  latch : s.intLatch = 0
  entry : s.intHold = 0
  env : s.env = []
  effects : s.e1 = {}
  decision : s.decision = none
  wakes : s.wakes = false

/-- The hypotheses of the statement are those of `State.Asleep`: IDLE and a hold of 0 both outlast a held cycle. -/
theorem asleep_of_quiescent {s : State} (hs : s.quiescent) (effects : s.e1 = {}) (env : s.env = [])
    (latch : s.intLatch = 0) (shadow : s.branchShadow = 0) (entry : s.intHold = 0)
    (hhold : s.hold = .idle ∨ s.hold = .count 0) (decision : s.decision = none) (wakes : s.wakes = false) :
    s.Asleep := by
  obtain ⟨hstays, branches, regs, sat, command⟩ := hs
  have held : s.held = true := by
    refine held_iff.mpr (.inr (hstays.symm.imp_right fun hidle => ?_))
    rw [hidle]
    exact Hold.noConfusion
  have hold : s.hold.tick = s.hold := by
    rcases hhold with h | h <;> rw [h] <;> rfl
  exact { held, hold, regs, branches, sat, command, shadow, latch, entry, env, effects, decision, wakes }

/-- `s` with the outputs IACK and INUM as given. -/
def State.withOutputs (s : State) (ack : Bool) (number : BitVec 4) : State :=
  { s with iack := ack, inum := number }

/-- The outputs play no part in being asleep. -/
theorem asleep_withOutputs {s : State} (hs : s.Asleep) (ack : Bool) (number : BitVec 4) :
    (s.withOutputs ack number).Asleep :=
  { hs with }

section
variable {s : State} (hs : s.Asleep)
include hs

theorem asleep_takeEnv : s.takeEnv = s := by
  have henv : s.env.tail = s.env := by rw [hs.env]; rfl
  have hlatch : s.intLatch ||| (s.envNow.arrive &&& interruptMask) = s.intLatch := by
    rw [State.envNow, hs.env, hs.latch]; rfl
  rw [State.takeEnv, henv, hlatch]

theorem asleep_retire : s.retire = .ok s := by
  have hland : s.landing = [] := by rw [State.landing, hs.regs, hs.effects]; rfl
  have hregs : stillLate s.pendingRegs ++ s.e1.late = s.pendingRegs := by rw [hs.regs, hs.effects]; rfl
  rw [State.retire, hland, hregs]
  rfl

theorem asleep_nextIfr : s.nextIfr = s.ifr := by
  have hclear : s.hardwareClear = 0 := by rw [State.hardwareClear, hs.entry]; rfl
  rw [State.nextIfr, hclear, hs.command, hs.latch]
  change (s.ifr &&& BitVec.allOnes 32) ||| 0#32 = s.ifr
  rw [BitVec.and_allOnes, BitVec.or_zero]

theorem asleep_updateControl : s.commitStores.updateControl = s.withOutputs false 0 := by
  have hifr : s.commitStores.nextIfr = s.ifr := asleep_nextIfr (s := s) hs
  rw [State.updateControl, State.updateSat, State.updateFlags, hifr]
  simp [State.commitStores, State.withOutputs, hs.effects, hs.sat, hs.command, hs.latch, hs.entry]

theorem asleep_advancePc : s.advancePc none = .ok s := by
  have hbranches : s.nextBranches = s.pendingBranches := by
    rw [State.nextBranches, hs.branches, hs.effects]; rfl
  rw [advancePc_held (by simp [hs.branches]), hs.hold, hbranches]

theorem asleep_countDown : s.countDown s.nextShadow s.wakes = s := by
  have hshadow : s.nextShadow = s.branchShadow := by rw [State.nextShadow, hs.effects, hs.shadow]; rfl
  have hentry : s.intHold - 1 = s.intHold := by rw [hs.entry]
  rw [State.countDown, hs.wakes, hshadow, hentry, ← hs.effects]
  rfl

/-- A cycle asleep drives the outputs and changes nothing else. -/
theorem asleep_step : step s = .next (s.withOutputs false 0) := by
  have hout := asleep_withOutputs hs false 0
  have hreset : ¬ s.envNow.reset = true := by rw [State.envNow, hs.env]; exact Bool.false_ne_true
  rw [step, State.cycle, if_neg hreset, asleep_takeEnv hs, if_pos hs.held, State.endCycle, asleep_retire hs]
  simp only [bind, Except.bind]
  rw [asleep_updateControl hs]
  simp only [asleep_advancePc hout, hs.decision]
  exact congrArg _ (asleep_countDown hout)

end

/-- Every cycle of a run starts asleep again. -/
theorem asleep_run {s : State} (hs : s.Asleep) (k : Nat) :
    ∃ ack number, run k s = .next (s.withOutputs ack number) := by
  induction k generalizing s with
  | zero => exact ⟨s.iack, s.inum, rfl⟩
  | succ k ih =>
    obtain ⟨ack, number, hrun⟩ := ih (asleep_withOutputs hs false 0)
    exact ⟨ack, number, run_succ_next.mpr ⟨_, asleep_step hs, hrun⟩⟩

/-- Settles O33: being asleep is kept by every cycle. -/
theorem quiescentCpuStaysAsItIs : Obligations.QuiescentCpuStaysAsItIs := by
  intro s hs effects env latch shadow entry hhold decision wakes k
  obtain ⟨ack, number, hrun⟩ :=
    asleep_run (asleep_of_quiescent hs effects env latch shadow entry hhold decision wakes) k
  exact ⟨_, hrun, rfl⟩

end Sys2Proof.Machine
end

section
/-! SUPPORT. What an instruction adds to the effects of E1, and that it reads the start of the cycle: one instruction
run on two states that differ in E1 alone (70_reset_and_hazards.md R801, R804). -/

namespace Sys2Proof.Machine

/-- Settles O14: every instruction is a chain of operations that only add effects. -/
theorem execOnlyAddsEffects : Obligations.ExecOnlyAddsEffects := by
  intro i s t h
  have hadds := (exec_makesEffects h).addsEffects
  exact ⟨hadds, fun a => by rw [hadds.same State.mem fun _ _ _ => rfl], (exec_makesEffects h).ok⟩

/-- The same has been put behind each of two lists. -/
def AppendAlike {α : Type} (l m l' m' : List α) : Prop :=
  ∃ d, l' = l ++ d ∧ m' = m ++ d

theorem AppendAlike.refl {α : Type} (l m : List α) : AppendAlike l m l m :=
  ⟨[], (List.append_nil l).symm, (List.append_nil m).symm⟩

theorem AppendAlike.append {α : Type} {l m l' m' : List α} (h : AppendAlike l m l' m') (d : List α) :
    AppendAlike l m (l' ++ d) (m' ++ d) := by
  obtain ⟨c, rfl, rfl⟩ := h
  exact ⟨c ++ d, List.append_assoc .., List.append_assoc ..⟩

/-- `t` and `v` are `s` and `u` with the same effects added; they differ in E1 alone. -/
structure AddsAlike (s u t v : State) : Prop where
  rest : v = { t with e1 := v.e1 }
  regs : AppendAlike s.e1.regs u.e1.regs t.e1.regs v.e1.regs
  late : AppendAlike s.e1.late u.e1.late t.e1.late v.e1.late
  stores : AppendAlike s.e1.stores u.e1.stores t.e1.stores v.e1.stores
  sat : AppendAlike s.e1.sat u.e1.sat t.e1.sat v.e1.sat
  ctrl : AppendAlike s.e1.ctrl u.e1.ctrl t.e1.ctrl v.e1.ctrl
  branch : t.e1.branch = s.e1.branch ∧ v.e1.branch = u.e1.branch ∨ t.e1.branch ≠ none ∧ t.e1.branch = v.e1.branch

/-- `s` with other effects in E1. -/
def State.withE1 (s : State) (e : Effects) : State :=
  { s with e1 := e }

/-- A load reads memory as it was before the packet's stores (20_memory.md R182). -/
theorem loadBytes_withE1 (s : State) (e : Effects) (a n : Nat) : (s.withE1 e).loadBytes a n = s.loadBytes a n := by
  induction n generalizing a with
  | zero => rfl
  | succ n ih =>
    have hbyte : (s.withE1 e).loadByte a = s.loadByte a := rfl
    simp only [State.loadBytes, hbyte, ih]

theorem memRead_withE1 (s : State) (e : Effects) (w : Width) (a : Word) :
    (s.withE1 e).memRead w a = s.memRead w a := by
  have horder : (s.withE1 e).littleEndian = s.littleEndian := rfl
  simp only [State.memRead, loadBytes_withE1, horder]

namespace AddsAlike

variable {s u t v t' v' : State}

/-! ## The shared operations -/

theorem nothing (h : u = { s with e1 := u.e1 }) : AddsAlike s u s u :=
  ⟨h, .refl _ _, .refl _ _, .refl _ _, .refl _ _, .refl _ _, .inl ⟨rfl, rfl⟩⟩

theorem putReg {d : Side} {f : BitVec 5} {w : Word} (h : AddsAlike s u t v) :
    AddsAlike s u (t.putReg d f w) (v.putReg d f w) :=
  { h with rest := by rw [State.putReg, h.rest]; rfl, regs := h.regs.append _ }

theorem putLate {d : Side} {f : BitVec 5} {w : Word} {n : Nat} (h : AddsAlike s u t v) :
    AddsAlike s u (t.putLate d f w n) (v.putLate d f w n) :=
  { h with rest := by rw [State.putLate, h.rest]; rfl, late := h.late.append _ }

theorem drawn (h : AddsAlike s u t v) : AddsAlike s u t.drawn v.drawn :=
  { h with rest := by rw [State.drawn, h.rest]; rfl }

theorem requestSat {n : Nat} (h : AddsAlike s u t v) : AddsAlike s u (t.requestSat n) (v.requestSat n) :=
  { h with rest := by rw [State.requestSat, h.rest]; rfl, sat := h.sat.append _ }

theorem putCtrl {c : CtrlWrite} (h : AddsAlike s u t v) : AddsAlike s u (t.putCtrl c) (v.putCtrl c) :=
  { h with rest := by rw [State.putCtrl, h.rest]; rfl, ctrl := h.ctrl.append _ }

theorem putHold {g : Hold} (h : AddsAlike s u t v) : AddsAlike s u (t.putHold g) (v.putHold g) :=
  { h with rest := by rw [State.putHold, h.rest]; rfl }

theorem noteBranch (h : AddsAlike s u t v) : AddsAlike s u t.noteBranch v.noteBranch :=
  { h with rest := by rw [State.noteBranch, h.rest]; rfl }

theorem memWrite {w : Width} {a x : Word} (h : AddsAlike s u t v) (ht : t.memWrite w a x = .ok t')
    (hv : v.memWrite w a x = .ok v') : AddsAlike s u t' v' := by
  obtain ⟨-, -, -, -, rfl⟩ := memWrite_ok ht
  obtain ⟨-, -, -, -, rfl⟩ := memWrite_ok hv
  have hcells : v.storeCells w a x = t.storeCells w a x := by rw [h.rest]; rfl
  exact { h with rest := by rw [h.rest], stores := by rw [hcells]; exact h.stores.append _ }

theorem takeBranch {target : Word} (h : AddsAlike s u t v) (ht : t.takeBranch target = .ok t')
    (hv : v.takeBranch target = .ok v') : AddsAlike s u t' v' := by
  obtain ⟨-, -, rfl⟩ := takeBranch_ok ht
  obtain ⟨-, -, rfl⟩ := takeBranch_ok hv
  exact { h with rest := by rw [h.rest], branch := .inr ⟨Option.some_ne_none _, rfl⟩ }

theorem putLong {d : Side} {f : BitVec 5} {w : Long} (h : AddsAlike s u t v) :
    AddsAlike s u (t.putLong d f w) (v.putLong d f w) :=
  h.putReg.putReg

theorem satIf {c : Bool} {n : Nat} (h : AddsAlike s u t v) : AddsAlike s u (satIf t c n) (satIf v c n) := by
  unfold Machine.satIf
  split
  · exact h.requestSat
  · exact h

theorem updateBase {o : OpsMem} {w : Word} (h : AddsAlike s u t v) :
    AddsAlike s u (updateBase t o w) (updateBase v o w) := by
  unfold Machine.updateBase
  split
  · exact h.putReg
  · exact h

/-! ## The shared forms of the meanings

`s` and `s.withE1 e` have the same registers, control registers and memory. -/

variable {e : Effects} {c : Cond}

theorem start (s : State) (e : Effects) : AddsAlike s (s.withE1 e) s (s.withE1 e) := nothing rfl

/-- A conditional does what it guards on both, or nothing on both. -/
theorem ofGuarded {x x' : Except Stop State} (h : s.onCond c (outcome x) = .next t)
    (h' : (s.withE1 e).onCond c (outcome x') = .next v)
    (hx : ∀ a b, x = .ok a → x' = .ok b → AddsAlike s (s.withE1 e) a b) : AddsAlike s (s.withE1 e) t v := by
  have hsame : (s.withE1 e).holds c = s.holds c := rfl
  rcases onCond_next.mp h with ⟨hc, h⟩ | ⟨hc, ht⟩
  · rw [onCond_holds _ (hsame.trans hc)] at h'
    exact hx t v (outcome_next.mp h) (outcome_next.mp h')
  · rw [onCond_not _ (hsame.trans hc)] at h'
    cases h'
    rw [ht]
    exact start s e

theorem ofCond (h : s.onCond c (.next t') = .next t) (h' : (s.withE1 e).onCond c (.next v') = .next v)
    (hadds : AddsAlike s (s.withE1 e) t' v') : AddsAlike s (s.withE1 e) t v :=
  ofGuarded (x := .ok t') (x' := .ok v') h h' fun _ _ ht hv => by cases ht; cases hv; exact hadds

/-- A stop or a value that both states give alike, and what follows it. -/
theorem ofBind {α : Type} {f : Except Stop α} {g g' : α → Except Stop State} (ht : (f >>= g) = .ok t)
    (hv : (f >>= g') = .ok v) (hadds : ∀ y, g y = .ok t → g' y = .ok v → AddsAlike s u t v) : AddsAlike s u t v := by
  obtain ⟨y, hy, ht⟩ := bind_ok.mp ht
  obtain ⟨z, hz, hv⟩ := bind_ok.mp hv
  cases hy.symm.trans hz
  exact hadds y ht hv

theorem ofResult {d : Side} {f : BitVec 5} {w : Word} (h : s.onCond c (.next (s.putReg d f w)) = .next t)
    (h' : (s.withE1 e).onCond c (.next ((s.withE1 e).putReg d f w)) = .next v) : AddsAlike s (s.withE1 e) t v :=
  ofCond h h' (start s e).putReg

theorem ofFreeResult {d : Side} {f : BitVec 5} {w : Word} (h : s.onCond c (.next (s.drawn.putReg d f w)) = .next t)
    (h' : (s.withE1 e).onCond c (.next ((s.withE1 e).drawn.putReg d f w)) = .next v) :
    AddsAlike s (s.withE1 e) t v :=
  ofCond h h' (start s e).drawn.putReg

theorem ofLongResult {d : Side} {f : BitVec 5} {w : Long} (h : s.onCond c (.next (s.putLong d f w)) = .next t)
    (h' : (s.withE1 e).onCond c (.next ((s.withE1 e).putLong d f w)) = .next v) : AddsAlike s (s.withE1 e) t v :=
  ofCond h h' (start s e).putLong

theorem ofLateResult {d : Side} {f : BitVec 5} {w : Word} (h : s.onCond c (.next (s.putLate d f w 1)) = .next t)
    (h' : (s.withE1 e).onCond c (.next ((s.withE1 e).putLate d f w 1)) = .next v) : AddsAlike s (s.withE1 e) t v :=
  ofCond h h' (start s e).putLate

theorem ofSat32 {d : Side} {f : BitVec 5} {w : Int} (h : s.onCond c (.next (putSat32 s d f w)) = .next t)
    (h' : (s.withE1 e).onCond c (.next (putSat32 (s.withE1 e) d f w)) = .next v) : AddsAlike s (s.withE1 e) t v :=
  ofCond h h' (start s e).putReg.satIf

theorem ofSat40 {d : Side} {f : BitVec 5} {w : Int} (h : s.onCond c (.next (putSat40 s d f w)) = .next t)
    (h' : (s.withE1 e).onCond c (.next (putSat40 (s.withE1 e) d f w)) = .next v) : AddsAlike s (s.withE1 e) t v :=
  ofCond h h' (start s e).putLong.satIf

theorem ofSatLate {d : Side} {f : BitVec 5} {w : Int} (h : s.onCond c (.next (putSatLate s d f w)) = .next t)
    (h' : (s.withE1 e).onCond c (.next (putSatLate (s.withE1 e) d f w)) = .next v) : AddsAlike s (s.withE1 e) t v :=
  ofCond h h' (start s e).putLate.satIf

/-- The operands choose alike between a defined and a free result. -/
theorem ofChoice {b : Bool} {k l k' l' : Out} (h : (if b then k else l) = .next t)
    (h' : (if b then k' else l') = .next v)
    (hk : k = .next t → k' = .next v → AddsAlike s u t v) (hl : l = .next t → l' = .next v → AddsAlike s u t v) :
    AddsAlike s u t v := by
  cases b with
  | true => exact hk h h'
  | false => exact hl h h'

theorem ofSshl {o : Ops3} (h : execSshl o s = .next t) (h' : execSshl o (s.withE1 e) = .next v) :
    AddsAlike s (s.withE1 e) t v := by
  refine ofCond h h' ?_
  change AddsAlike s (s.withE1 e) _ (if 31 < (src1 s o).toNat then _ else _)
  split
  · exact (start s e).drawn.putReg.satIf
  · exact (start s e).putReg.satIf

theorem ofAddressArith {o : OpsD} {w : Width} {off : Word} {add : Bool} (h : addressArith s o w off add = .next t)
    (h' : addressArith (s.withE1 e) o w off add = .next v) : AddsAlike s (s.withE1 e) t v :=
  ofGuarded h h' fun _ _ ha hb => ofBind ha hb fun _ ha hb => by
    cases ha; cases hb
    exact (start s e).putReg

theorem ofMvcRead {o : Ops3} (h : execMvcRead o s = .next t) (h' : execMvcRead o (s.withE1 e) = .next v) :
    AddsAlike s (s.withE1 e) t v :=
  ofGuarded h h' fun _ _ ha hb => ofBind ha hb fun _ ha hb => by
    cases ha; cases hb
    exact (start s e).putReg

theorem ofWriteCsr {w : Word} (h : s.writeCsr w = .ok t) (h' : (s.withE1 e).writeCsr w = .ok v) :
    AddsAlike s (s.withE1 e) t v := by
  obtain ⟨-, ⟨hbit, rfl⟩ | ⟨hbit, rfl⟩⟩ := writeCsr_ok h <;>
    obtain ⟨-, ⟨hbit', rfl⟩ | ⟨hbit', rfl⟩⟩ := writeCsr_ok h'
  · exact (start s e).drawn.putCtrl
  · cases hbit.symm.trans hbit'
  · cases hbit.symm.trans hbit'
  · exact (start s e).putCtrl

theorem ofWriteCtrl {n : BitVec 5} {w : Word} (h : s.writeCtrl n w = .ok t) (h' : (s.withE1 e).writeCtrl n w = .ok v) :
    AddsAlike s (s.withE1 e) t v := by
  unfold State.writeCtrl at h h'
  split at h
  case h_2 hn =>
    rw [hn] at h'
    exact ofWriteCsr h h'
  case h_9 => cases h
  all_goals
    next hn =>
    rw [hn] at h'
    cases h
    cases h'
    exact (start s e).putCtrl

theorem ofLoad {o : OpsMem} {w : Width} {ext : Word → Word} (h : load s o w ext = .next t)
    (h' : load (s.withE1 e) o w ext = .next v) : AddsAlike s (s.withE1 e) t v :=
  ofGuarded h h' fun _ _ ha hb => ofBind ha hb fun new ha hb => by
    rw [memRead_withE1] at hb
    refine ofBind (f := s.memRead w (usedAddress s o new)) ha hb fun _ ha hb => ?_
    cases ha; cases hb
    exact (start s e).updateBase.putLate

theorem ofLoad15 {o : OpsMem15} {w : Width} {ext : Word → Word} (h : load15 s o w ext = .next t)
    (h' : load15 (s.withE1 e) o w ext = .next v) : AddsAlike s (s.withE1 e) t v :=
  ofGuarded h h' fun _ _ ha hb => by
    rw [memRead_withE1] at hb
    refine ofBind (f := s.memRead w (address15 s o w)) ha hb fun _ ha hb => ?_
    cases ha; cases hb
    exact (start s e).putLate

theorem ofStore {o : OpsMem} {w : Width} (h : store s o w = .next t) (h' : store (s.withE1 e) o w = .next v) :
    AddsAlike s (s.withE1 e) t v :=
  ofGuarded h h' fun _ _ ha hb => ofBind ha hb fun _ ha hb => by
    obtain ⟨_, hx, ha⟩ := bind_ok.mp ha
    obtain ⟨_, hy, hb⟩ := bind_ok.mp hb
    cases ha; cases hb
    exact ((start s e).memWrite hx hy).updateBase

theorem ofStore15 {o : OpsMem15} {w : Width} (h : store15 s o w = .next t)
    (h' : store15 (s.withE1 e) o w = .next v) : AddsAlike s (s.withE1 e) t v :=
  ofGuarded h h' fun _ _ => (start s e).memWrite

/-- A branch is noted on both, and taken on both or on neither. -/
theorem ofBranch {taken taken' : Except Stop State} (h : Machine.branch s c taken = .next t)
    (h' : Machine.branch (s.withE1 e) c taken' = .next v)
    (htaken : ∀ a b, taken = .ok a → taken' = .ok b → AddsAlike s (s.withE1 e) a b) :
    AddsAlike s (s.withE1 e) t v := by
  have hsame : (s.withE1 e).holds c = s.holds c := rfl
  rcases branch_next h with ⟨hc, a, ha, rfl⟩ | ⟨hc, rfl⟩ <;>
    rcases branch_next h' with ⟨hc', b, hb, rfl⟩ | ⟨hc', rfl⟩
  · exact (htaken a b ha hb).noteBranch
  · cases (hsame.trans hc).symm.trans hc'
  · cases (hsame.trans hc).symm.trans hc'
  · exact (start s e).noteBranch

end AddsAlike

/-! ## Every instruction -/

open AddsAlike in
/-- An instruction that answers with either effects in E1 adds the same to both. -/
theorem exec_addsAlike {i : Instr} {s t v : State} {e : Effects} (h : exec i s = .next t)
    (h' : exec i (s.withE1 e) = .next v) : AddsAlike s (s.withE1 e) t v := by
  cases i with
  | addL o | addLCst o | subL o | subLX o | subLCst o | subc o | abs o | andL o | andLCst o | orL o | orLCst o | xorL o
  | xorLCst o | lmbd o | lmbdCst o | norm o | normLong o | addS o | addSCst o | subS o | subSCst o | add2 o | sub2 o
  | andS o | andSCst o | orS o | orSCst o | xorS o | xorSCst o | shl o | shlCst o | shr o | shrCst o | shru o
  | shruCst o | cmpeq o | cmpeqCst o | cmpeqLong o | cmpeqCstLong o | cmpgt o | cmpgtCst o | cmpgtLong o
  | cmpgtCstLong o | cmpgtu o | cmpgtuLong o | cmplt o | cmpltCst o | cmpltLong o | cmpltCstLong o | cmpltu o
  | cmpltuLong o | addD o | addDCst o | subD o | subDCst o | addk o | mvk o | mvkh o | mvkl o | mvklh o | extu o | ext o
  | mvL o | mvS o | mvD o | negL o | negS o | notL o | notS o | zeroL o | zeroS o | zeroD o => exact ofResult h h'
  | addLToLong o | addLLong o | addLCstLong o | addu o | adduLong o | subLToLong o | subLXToLong o | subLCstLong o
  | subu o | subuX o | absLong o | shlLong o | shlToLong o | shlCstLong o | shlCstToLong o | shrLong o | shrCstLong o
  | shruLong o | shruCstLong o | mvLLong o | negLLong o | zeroLLong o => exact ofLongResult h h'
  | cmpgtuCst o | cmpgtuCstLong o | cmpltuCst o | cmpltuCstLong o | setReg o | clrReg o | extReg o | extuReg o | set o
  | clr o => exact ofChoice h h' ofFreeResult ofResult
  | mpy o | mpyCst o | mpyu o | mpyus o | mpysu o | mpysuCst o | mpyh o | mpyhu o | mpyhus o | mpyhsu o | mpyhl o
  | mpyhlu o | mpyhuls o | mpyhslu o | mpylh o | mpylhu o | mpyluhs o | mpylshu o => exact ofLateResult h h'
  | sadd o | saddCst o | ssub o | ssubX o | ssubCst o | sat o | sshlCst o => exact ofSat32 h h'
  | saddLong o | saddCstLong o | ssubCstLong o => exact ofSat40 h h'
  | smpy o | smpyh o | smpyhl o | smpylh o => exact ofSatLate h h'
  | sshl o => exact ofSshl h h'
  | addab o | addabCst o | addah o | addahCst o | addaw o | addawCst o | subab o | subabCst o | subah o | subahCst o
  | subaw o | subawCst o => exact ofAddressArith h h'
  | mvcRead o => exact ofMvcRead h h'
  | mvcWrite o => exact ofGuarded h h' fun _ _ => ofWriteCtrl
  | ldhu o | ldbu o | ldb o | ldh o | ldw o => exact ofLoad h h'
  | ldhu15 o | ldbu15 o | ldb15 o | ldh15 o | ldw15 o => exact ofLoad15 h h'
  | stb o | sth o | stw o => exact ofStore h h'
  | stb15 o | sth15 o | stw15 o => exact ofStore15 h h'
  | bDisp o | bReg o => exact ofBranch h h' fun _ _ => (start s e).takeBranch
  | bIrp o =>
    refine ofBranch h h' fun a b ha hb => ?_
    obtain ⟨_, hx, rfl⟩ := returnFromInterrupt_ok ha
    obtain ⟨_, hy, rfl⟩ := returnFromInterrupt_ok hb
    exact ((start s e).takeBranch hx hy).putCtrl
  | bNrp o =>
    refine ofBranch h h' fun a b ha hb => ?_
    obtain ⟨_, hx, rfl⟩ := returnFromNmi_ok ha
    obtain ⟨_, hy, rfl⟩ := returnFromNmi_ok hb
    exact ((start s e).takeBranch hx hy).putCtrl
  | nop | nop9 | idle => cases h; cases h'; exact (start s e).putHold

/-- Settles O16: the two states of the statement differ in E1 alone. -/
theorem packetReadsTheStartOfTheCycle : Obligations.PacketReadsTheStartOfTheCycle := by
  intro i s t u v hu h h'
  rw [hu] at h'
  obtain ⟨rest, regs, late, stores, sat, ctrl, branch⟩ := exec_addsAlike (e := u.e1) h h'
  exact ⟨(congrArg State.freeIdx rest).symm, regs, late, stores, sat, ctrl, branch⟩

end Sys2Proof.Machine
end
